-- ==== Sys2Proof/Word.lean ====
section
/-! DEFINITION. The two word types of the link and the drive ports (R155, R165) and the station number. -/

namespace Sys2Proof

/-- One byte of a link frame or of a drive word (R155, R165). -/
abbrev Byte := BitVec 8

/-- A 16-bit value with one bit per notice flag: a flag set (R163). -/
abbrev FlagSet := BitVec 16

/-- A station, and with it its drive port: 0..5 (00_scope, section 5). -/
abbrev StationId := Fin 6

end Sys2Proof
end

