-- ==== Sys2Proof/Syntax.lean ====
section
/-! DEFINITION. The commands of the part: one constructor per row of spec/opcode_table.json, with what the outside
gives with it. A host request has no operand of its own: its fields stand in the frame at the head of the receive
list (R158, R159; notes/assumptions/2.md). -/

namespace Sys2Proof

/-- The part's steps, each whole and indivisible (95_what_each_step_holds). -/
inductive Instr where
  /-- LINK_FRAME_RECEIVED: these bytes are received on the host link, one after another (R155 to R158). -/
  | linkFrameReceived (bytes : List Byte)
  /-- INTER_BYTE_GAP: more than 2 ms pass on the host link after the last byte (R156). -/
  | interByteGap
  /-- LINK_FRAMING_ERROR: a byte with a missing stop bit is received on the host link (R156). -/
  | linkFramingError
  /-- LINK_ERROR: the head of the receive list is answered with a kind 7Fh reply (R159, R162). -/
  | linkError
  /-- BAD_KIND: a frame entry of an unknown kind at the head is answered (R159). -/
  | badKind
  /-- STATUS: the STATUS request at the head is handled (R161). -/
  | status
  /-- SETUP_DEFINE: the SETUP DEFINE request at the head is handled (R7). -/
  | setupDefine
  /-- SETUP_CLOSE: the SETUP CLOSE request at the head is handled (R9). -/
  | setupClose
  /-- STATION_CONFIG: the STATION CONFIG request at the head is handled (R107). -/
  | stationConfig
  /-- WINDOW_SET: the WINDOW SET request at the head is handled (R65). -/
  | windowSet
  /-- WINDOW_CLEAR: the WINDOW CLEAR request at the head is handled (R66). -/
  | windowClear
  /-- ROW: the ROW request at the head is handled (R18). -/
  | row
  /-- START: the START request at the head is handled (R108). -/
  | start
  /-- HOLD: the HOLD request at the head is handled (R114). -/
  | hold
  /-- RESUME: the RESUME request at the head is handled (R115). -/
  | resume
  /-- PARK: the PARK request at the head is handled (R116). -/
  | park
  /-- UNPARK: the UNPARK request at the head is handled (R118). -/
  | unpark
  /-- ABORT: the ABORT request at the head is handled (R119). -/
  | abort
  /-- STEP: the STEP request at the head is handled (R86). -/
  | stepCell
  /-- DRESS_MODE: the DRESS MODE request at the head is handled (R136). -/
  | dressMode
  /-- TOOL_CHANGED: the TOOL CHANGED request at the head is handled (R137). -/
  | toolChanged
  /-- STATION_STATUS: the STATION STATUS request at the head is handled (R122). -/
  | stationStatus
  /-- READ_STOCK: the READ STOCK request at the head is handled (R68). -/
  | readStock
  /-- NOTICE_MASK: the NOTICE MASK request at the head is handled (R153). -/
  | noticeMask
  /-- NOTICE_CLEAR: the NOTICE CLEAR request at the head is handled (R152). -/
  | noticeClear
  /-- RESET: the RESET request at the head is handled (R162). -/
  | resetRequest
  /-- RESET_COMPLETION: the last reply after a RESET has been sent and the part resets; the straps BR1 BR0 and the
  stop line (true: asserted) as sampled then (R162, R168). -/
  | resetCompletion (straps : BitVec 2) (stop : Bool)
  /-- TRANSMITTER_FREE: the link transmitter is sending no frame, or has just ended one, and chooses (R151). -/
  | transmitterFree
  /-- MARK: the drive of the station reports a cell boundary, with a load and its load-valid indication (R70). -/
  | mark (p : StationId) (load : BitVec 16) (valid : Bool)
  /-- DRESSED: the drive of the station reports the end of a dressing, with its number and a length if present (R129). -/
  | dressed (p : StationId) (number : BitVec 4) (length : Option (BitVec 16))
  /-- DRIVE_WORD_DISCARDED: these bytes are received back to back on the station's drive port (R167). -/
  | driveWordDiscarded (p : StationId) (bytes : List Byte)
  /-- DRIVE_BYTE_GAP: more than 50 µs pass, or a framing error comes, inside a drive word (R167). -/
  | driveByteGap (p : StationId)
  /-- DRIVE_COMMAND_SENT: the command word being sent on the station's drive port ends (R166). -/
  | driveCommandSent (p : StationId)
  /-- APPROACH_TIMEOUT: the station's approach timer expires (R100). -/
  | approachTimeout (p : StationId)
  /-- LEAD_TIMER_EXPIRY: the station's lead timer expires (R83). -/
  | leadTimerExpiry (p : StationId)
  /-- BLANK_TIMER_EXPIRY: the station's blank timer expires (R80). -/
  | blankTimerExpiry (p : StationId)
  /-- MISS_TIMEOUT: the station's miss timer expires (R93). -/
  | missTimeout (p : StationId)
  /-- SETTLE_EXPIRY: the station's settle timer expires (R128). -/
  | settleExpiry (p : StationId)
  /-- DRESS_TIMEOUT: the station's dress timer expires (R134). -/
  | dressTimeout (p : StationId)
  /-- STOP_LINE_ASSERTED: the stop line has been asserted for 100 µs (R120, R168). -/
  | stopLineAsserted
  /-- STOP_LINE_RELEASED: the stop line has been released for 100 µs (R121, R168). -/
  | stopLineReleased
  /-- RESET_PIN: RESET_N goes low and takes effect (R162, R168). -/
  | resetPin
  /-- RESET_PIN_RELEASE: RESET_N is released and the reset completes; straps and stop line as sampled (R168). -/
  | resetPinRelease (straps : BitVec 2) (stop : Bool)
  /-- POWER_ON_RESET: power comes up and has been in range for 10 ms; straps and stop line as sampled (R168). -/
  | powerOnReset (straps : BitVec 2) (stop : Bool)
  /-- LEN_OUT_OF_RANGE: this second length byte of a link frame is received (R156). -/
  | lenOutOfRange (hi : Byte)
  deriving DecidableEq, Repr

end Sys2Proof
end

