-- ==== Sys2Proof/Decode.lean ====
section
/-! DEFINITION. The command a table word spells, and the command that handles a link frame of each kind (R163). -/

namespace Sys2Proof

/-- No row of spec/opcode_table.json gives bits, so no word spells a command. -/
def decodeTableWord (_nbits _w : Nat) : Option Instr := none

/-- The command that handles a frame entry of this kind at the head of the receive list; none for the unknown kinds
00h and 16h..FFh (R159, R163). -/
def requestOfKind (kind : Byte) : Option Instr :=
  match kind.toNat with
  | 0x01 => some .status
  | 0x02 => some .setupDefine
  | 0x03 => some .setupClose
  | 0x04 => some .stationConfig
  | 0x05 => some .windowSet
  | 0x06 => some .windowClear
  | 0x07 => some .row
  | 0x08 => some .start
  | 0x09 => some .hold
  | 0x0A => some .resume
  | 0x0B => some .park
  | 0x0C => some .unpark
  | 0x0D => some .abort
  | 0x0E => some .stepCell
  | 0x0F => some .dressMode
  | 0x10 => some .toolChanged
  | 0x11 => some .stationStatus
  | 0x12 => some .readStock
  | 0x13 => some .noticeMask
  | 0x14 => some .noticeClear
  | 0x15 => some .resetRequest
  | _ => none

/-- The kind byte of the request that a command handles (R163); none for a command that handles no request. -/
def kindOfRequest : Instr → Option Byte
  | .linkFrameReceived _ => none
  | .interByteGap => none
  | .linkFramingError => none
  | .linkError => none
  | .badKind => none
  | .status => some 0x01
  | .setupDefine => some 0x02
  | .setupClose => some 0x03
  | .stationConfig => some 0x04
  | .windowSet => some 0x05
  | .windowClear => some 0x06
  | .row => some 0x07
  | .start => some 0x08
  | .hold => some 0x09
  | .resume => some 0x0A
  | .park => some 0x0B
  | .unpark => some 0x0C
  | .abort => some 0x0D
  | .stepCell => some 0x0E
  | .dressMode => some 0x0F
  | .toolChanged => some 0x10
  | .stationStatus => some 0x11
  | .readStock => some 0x12
  | .noticeMask => some 0x13
  | .noticeClear => some 0x14
  | .resetRequest => some 0x15
  | .resetCompletion _ _ => none
  | .transmitterFree => none
  | .mark _ _ _ => none
  | .dressed _ _ _ => none
  | .driveWordDiscarded _ _ => none
  | .driveByteGap _ => none
  | .driveCommandSent _ => none
  | .approachTimeout _ => none
  | .leadTimerExpiry _ => none
  | .blankTimerExpiry _ => none
  | .missTimeout _ => none
  | .settleExpiry _ => none
  | .dressTimeout _ => none
  | .stopLineAsserted => none
  | .stopLineReleased => none
  | .resetPin => none
  | .resetPinRelease _ _ => none
  | .powerOnReset _ _ => none
  | .lenOutOfRange _ => none

end Sys2Proof
end

