-- ==== Sys2Proof/Config.lean ====
section
/-! DEFINITION. What is fixed for this part (00_scope, section 5) and the two pin levels that `State.reset` samples.
The manual leaves no result of any command open, so there is no free value here (notes/assumptions/1.md). -/

namespace Sys2Proof.Config

/-- The part revision byte that STATUS reports (R161). -/
def partRevision : Byte := 0x03

/-- Rows of a whole strip (R3). -/
def rowsPerStrip : Nat := 32

/-- The master depth ceiling in depth steps, 400 mm (R2, R21). -/
def masterCeiling : Nat := 40000

/-- WMAX: the greatest wear at which a tool is still used (R124, R131). -/
def wearMax : Nat := 300

/-- Greatest value of the 16-bit saturating counts (00_scope, section 4.1). -/
def countMax : Nat := 65535

/-- Greatest value of the chatter count (R80). -/
def chatterMax : Nat := 255

/-- Captures that a capture history holds at most (R75). -/
def historyDepth : Nat := 8

/-- Frame entries, and notes, that the receive list holds at most (R158). -/
def listDepth : Nat := 4

/-- Words that the command queue of a drive port holds at most (R166). -/
def queueDepth : Nat := 16

/-- The dressing interval G after reset (R124). -/
def resetInterval : Nat := 4000

/-- DESIGN CHOICE (notes/assumptions/4.md): the levels of BR1 and BR0 that `State.reset` has read. -/
def resetStraps : BitVec 2 := 0

/-- DESIGN CHOICE (notes/assumptions/4.md): the stop line level that `State.reset` has sampled, released. -/
def resetStop : Bool := false

end Sys2Proof.Config
end

