-- ==== Sys2Proof/Machine/State.lean ====
section
/-! DEFINITION. Everything the manual gives the part, as plain data, and the part right after reset. Depths, counts and
indices are whole numbers in the ranges their rules give; link bytes and flag sets are bit vectors. -/

namespace Sys2Proof.Machine

/-! ## Setup Table -/

/-- The lifecycle position of the setup (R6). -/
inductive SetupState where
  | none | loaded | active | ended
  deriving DecidableEq, Repr

/-- W, H and S of the setup record (R6). -/
structure Face where
  w : Nat
  h : Nat
  strips : Nat
  deriving DecidableEq, Repr

/-- One window record (R63). -/
structure Window where
  baseRow : Nat
  baseCol : Nat
  rowExp : Nat
  colExp : Nat
  deriving DecidableEq, Repr

/-! ## Master Strip Buffer -/

/-- What a slot holds: no strip, some rows of one, every row of one (R15). -/
inductive SlotState where
  | empty | filling | full
  deriving DecidableEq, Repr

/-- The record of one strip slot (R15). The finished set is a list of stations in increasing order. -/
structure Slot where
  state : SlotState
  strip : Option Nat
  rows : Nat
  samples : List (List Nat)
  finished : List StationId
  deriving DecidableEq, Repr

/-- An EMPTY slot (R15). -/
def Slot.cleared : Slot := { state := .empty, strip := none, rows := 0, samples := [], finished := [] }

/-! ## Stations -/

/-- The eleven station states (R105). -/
inductive StationState where
  | off | idle | spinup | cutting | dressing | waiting | held | parked | stalled | stopped | done
  deriving DecidableEq, Repr

/-- Where the end of the station's next spin-up leads (R105, R110). -/
inductive ReturnState where
  | work | idle | done
  deriving DecidableEq, Repr

/-- When each cell's PLUNGE is issued (R72). -/
inductive Trigger where
  | atMark | lead | step
  deriving DecidableEq, Repr

/-- The two kinds of pass (R5). -/
inductive Phase where
  | rough | finish
  deriving DecidableEq, Repr

/-- The station configuration record (R107; depth fields R33, timing fields R72, load fields R142). -/
structure StationConfig where
  scale : Nat
  offset : Int
  depthLimit : Nat
  allowance : Nat
  bite : Nat
  finishEnabled : Bool
  trigger : Trigger
  avgDepth : Nat
  startPeriod : Nat
  lead : Nat
  blank : Nat
  miss : Nat
  forcedLimit : Nat
  approach : Nat
  settle : Nat
  dressTimeout : Nat
  hardness : Nat
  overload : Nat
  spall : Nat
  deriving DecidableEq, Repr

/-- What the operations read of a station that holds no configuration record; no run reads it
(notes/assumptions/14.md). -/
def StationConfig.absent : StationConfig :=
  { scale := 0, offset := 0, depthLimit := 0, allowance := 0, bite := 0, finishEnabled := false, trigger := .atMark,
    avgDepth := 1, startPeriod := 0, lead := 0, blank := 0, miss := 0, forcedLimit := 0, approach := 0, settle := 0,
    dressTimeout := 0, hardness := 0, overload := 0, spall := 0 }

/-- One cell entry of a run plan (R55), with the stock depth it was planned from (R141). -/
structure CellPlan where
  depth : Nat
  stock : Nat
  cut : Bool
  short : Bool
  setpoint : Nat
  deriving DecidableEq, Repr

/-- A run plan (R55). -/
structure Plan where
  column : Nat
  phase : Phase
  pass : Nat
  rows : Nat
  cells : List CellPlan
  runCut : Nat
  shortCount : Nat
  next : Nat
  pendingSetpoint : Option Nat
  deriving DecidableEq, Repr

/-- What a station holds while it has a current strip: the stock map (R52), the position and the remaining count
(R58), pass overloaded (R140), and whether the Load Monitor has been told of the end of this pass (R60). -/
structure Work where
  stock : List (List Nat)
  phase : Phase
  pass : Nat
  column : Nat
  remaining : Nat
  overloaded : Bool
  told : Bool
  deriving DecidableEq, Repr

/-- The length of each owed dressing (R125). -/
inductive DressMode where
  | full | half | quarter
  deriving DecidableEq, Repr

/-- The three points at which owed dressings are taken (R127). -/
inductive CallPoint where
  | runEnd | stripDone | intoCutting
  deriving DecidableEq, Repr

/-- The kind of a dressing (R124); an owed one keeps the point that called for it (R127). -/
inductive DressKind where
  | owed (point : CallPoint)
  | closing
  deriving DecidableEq, Repr

/-- A dressing in flight (R124). -/
structure Dressing where
  quarters : Nat
  gauge : Bool
  number : Nat
  kind : DressKind
  deriving DecidableEq, Repr

/-- The dressing record (R124). -/
structure DressRecord where
  mode : DressMode
  interval : Nat
  due : Nat
  owed : Nat
  qsum : Nat
  wear : Nat
  ref : Option Nat
  worn : Bool
  number : Nat
  inFlight : Option Dressing
  deriving DecidableEq, Repr

/-- The dressing record after reset (R124). -/
def DressRecord.reset : DressRecord :=
  { mode := .full, interval := Config.resetInterval, due := 0, owed := 0, qsum := 0, wear := 0, ref := none,
    worn := false, number := 0, inFlight := none }

/-- The timers of a station: stopped, or the tick boundary at which each expires (R14, R73, R109, R127). -/
structure Timers where
  approach : Option Nat
  lead : Option Nat
  blank : Option Nat
  miss : Option Nat
  settle : Option Nat
  dress : Option Nat
  deriving DecidableEq, Repr

/-- Every station timer stopped (R73). -/
def Timers.stopped : Timers :=
  { approach := none, lead := none, blank := none, miss := none, settle := none, dress := none }

/-- The counts of a station (R36, R57, R80, R84, R97, R140). -/
structure Counts where
  clamp : Nat
  skipped : Nat
  chatter : Nat
  late : Nat
  forcedRun : Nat
  forcedTotal : Nat
  overload : Nat
  deriving DecidableEq, Repr

/-- Every count at 0. -/
def Counts.zero : Counts :=
  { clamp := 0, skipped := 0, chatter := 0, late := 0, forcedRun := 0, forcedTotal := 0, overload := 0 }

/-- The commands the part sends a drive (R165). -/
inductive DriveCmd where
  | run (column rows : Nat)
  | plunge (setpoint : Nat)
  | lift
  | spinOn
  | spinOff
  | dress (quarters : Nat) (gauge : Bool) (number : Nat)
  deriving DecidableEq, Repr

/-- A drive port: its command queue, oldest first, the head being the word that is being sent (R166;
notes/assumptions/7.md), and the bytes of a partial received word (R167). -/
structure Port where
  queue : List DriveCmd
  partialWord : List Byte
  deriving DecidableEq, Repr

/-- The pending and enabled set of one notice source (R148). -/
structure NoticeSets where
  pending : FlagSet
  enabled : FlagSet
  deriving DecidableEq, Repr

/-- One station: sequencer, planner, scheduler, monitor, drive port and notice source (00_scope 1.3). -/
@[ext]
structure Station where
  state : StationState
  ret : ReturnState
  holdPending : Bool
  parkPending : Bool
  resumeSpinup : Bool
  strip : Nat
  config : Option StationConfig
  work : Option Work
  plan : Option Plan
  captures : List Nat
  captureRef : Option Nat
  timers : Timers
  counts : Counts
  beff : Nat
  prevResidual : Option Int
  dress : DressRecord
  port : Port
  notices : NoticeSets
  deriving DecidableEq, Repr

/-- A station after reset with nothing in its command queue (R105, R124, R148 and the chapters' reset values). -/
def Station.cleared : Station :=
  { state := .off, ret := .work, holdPending := false, parkPending := false, resumeSpinup := false, strip := 0,
    config := none, work := none, plan := none, captures := [], captureRef := none, timers := Timers.stopped,
    counts := Counts.zero, beff := 0, prevResidual := none, dress := DressRecord.reset,
    port := { queue := [], partialWord := [] }, notices := { pending := 0, enabled := 0x1FF } }

/-- A station as a reset leaves it: LIFT and then SPIN OFF are in its command queue (R105, R166). -/
def Station.reset : Station := { Station.cleared with port := { queue := [.lift, .spinOff], partialWord := [] } }

/-! ## Link Interface -/

/-- A notice source: a station, or source 7 (R148). -/
inductive Source where
  | station (p : StationId)
  | global
  deriving DecidableEq, Repr

/-- The kind, tag and payload of a link frame (R155). -/
structure Frame where
  kind : Byte
  tag : Byte
  payload : List Byte
  deriving DecidableEq, Repr

/-- The link error code of a note (R158). -/
inductive NoteCode where
  | badCheck | overrun
  deriving DecidableEq, Repr

/-- An entry of the receive list (R158). -/
inductive Entry where
  | frame (f : Frame)
  | note (tag : Byte) (code : NoteCode)
  deriving DecidableEq, Repr

/-- The link receiver (R156): LENGTH with the first length byte if it has come, BODY with LEN and the bytes held. -/
inductive Receiver where
  | hunting
  | length (first : Option Byte)
  | body (len : Nat) (held : List Byte)
  | deaf
  deriving DecidableEq, Repr

/-- The link rates the straps select (R168). -/
inductive Baud where
  | b115200 | b230400 | b460800 | b921600
  deriving DecidableEq, Repr

/-- The rate that BR1 BR0 select (R168). -/
def Baud.ofStraps (straps : BitVec 2) : Baud :=
  if straps = 0 then .b115200 else if straps = 1 then .b230400 else if straps = 2 then .b460800 else .b921600

/-- The whole part, and the queue of the commands that wait. -/
@[ext]
structure State where
  receiver : Receiver
  recvList : List Entry
  replySlot : Option Frame
  sending : Option (List Byte)
  noticeQueue : List Source
  resetting : Bool
  baud : Baud
  inReset : Bool
  setup : SetupState
  face : Option Face
  tickExp : Nat
  members : List StationId
  windows : Vector (Option Window) 4
  slots : Vector Slot 2
  nextRow : Nat
  strip0Released : Bool
  stations : Vector Station 6
  globalNotices : NoticeSets
  stopLine : Bool
  tick : Nat
  pending : List Instr
  deriving DecidableEq, Repr

/-- What stops a step with a fault: nothing does. The manual gives every command an effect in every state, so no
meaning ends in a fault, and this type has no constructor (neither safe nor unsafe). -/
inductive Fault where
  deriving DecidableEq, Repr

/-- What stops a step with a refusal. -/
inductive Refusal where
  /-- Raised by an arm of `exec` for a row that has no meaning in this model; safe, since the run stops there. No arm
  does: every row has its meaning. -/
  | notModelled (mnemonic : String)
  deriving DecidableEq, Repr

/-- The reset values of every block with nothing in any command queue and the pins at the given levels (R6, R15,
R16, R63, R148, R162). -/
def State.cleared (straps : BitVec 2) (stop : Bool) : State :=
  { receiver := .hunting, recvList := [], replySlot := none, sending := none, noticeQueue := [], resetting := false,
    baud := Baud.ofStraps straps, inReset := false, setup := .none, face := none, tickExp := 0, members := [],
    windows := Vector.replicate 4 none, slots := Vector.replicate 2 Slot.cleared, nextRow := 0,
    strip0Released := false, stations := Vector.replicate 6 Station.cleared,
    globalNotices := { pending := 0, enabled := 0xF }, stopLine := stop, tick := 0, pending := [] }

/-- The part right after reset: every block at its reset value, LIFT and SPIN OFF in every command queue (R162,
R166), the stop line sampled released and the straps read as 00 (notes/assumptions/4.md), no command waiting. -/
def State.reset : State :=
  { State.cleared Config.resetStraps Config.resetStop with stations := Vector.replicate 6 Station.reset }

end Sys2Proof.Machine
end

