-- ==== Sys2Proof/Machine/Operands.lean ====
section
/-! DEFINITION. The fields of request payloads and the bytes of replies and drive words: byte order, signs, codes and
range checks (R155, R160, R163 to R165). -/

namespace Sys2Proof.Machine

/-! ## Bytes of a payload -/

/-- The one-byte field at an offset of a payload. -/
def byteAt (l : List Byte) (i : Nat) : Nat := (l.getD i 0).toNat

/-- The two-byte field at an offset, low byte first (R155). -/
def halfAt (l : List Byte) (i : Nat) : Nat := byteAt l i + 256 * byteAt l (i + 1)

/-- The signed two-byte field at an offset, in two's complement (R155). -/
def signedHalfAt (l : List Byte) (i : Nat) : Int :=
  if halfAt l i < 32768 then (halfAt l i : Int) else (halfAt l i : Int) - 65536

/-- The byte of a number below 256. -/
def byteOf (n : Nat) : Byte := BitVec.ofNat 8 n

/-- The two bytes of a number below 65536, low byte first (R155). -/
def halfBytes (n : Nat) : List Byte := [byteOf (n % 256), byteOf (n / 256)]

/-- A flag of a record as a byte: 1 yes, 0 no (R164). -/
def flagByte (b : Bool) : Byte := if b then 1 else 0

/-- The station number in the first byte of a payload, when it is in 0..5 (R106 step 3). -/
def stationField (l : List Byte) : Option StationId :=
  if h : byteAt l 0 < 6 then some ⟨byteAt l 0, h⟩ else none

/-- The notice source in the first byte of a payload, when it is 0..5 or 7 (R152). -/
def sourceField (l : List Byte) : Option Source :=
  match stationField l with
  | some p => some (.station p)
  | none => if byteAt l 0 = 7 then some .global else none

/-- The flag set at an offset of a payload (R163). -/
def flagSetAt (l : List Byte) (i : Nat) : FlagSet := BitVec.ofNat 16 (halfAt l i)

/-- The number of the first field out of range, the fields being checked in order (R107, R160). -/
def firstBad (checks : List (Nat × Bool)) : Option Nat :=
  (checks.find? (fun c => !c.2)).map (fun c => c.1)

/-- A number lies in lo..hi. -/
def inRange (lo hi n : Nat) : Bool := decide (lo ≤ n) && decide (n ≤ hi)

/-! ## Codes -/

/-- The status of a reply (R160). -/
inductive Status where
  | done | badKind | badLength | badField | wrongState | noSetup | outOfOrder | bufferFull | partialGroup
  | stopActive | misaligned | tooLarge | worn | badCheck | overrun
  deriving DecidableEq, Repr

/-- The status byte (R160). -/
def Status.code : Status → Byte
  | .done => 0x00
  | .badKind => 0x01
  | .badLength => 0x02
  | .badField => 0x03
  | .wrongState => 0x04
  | .noSetup => 0x05
  | .outOfOrder => 0x06
  | .bufferFull => 0x07
  | .partialGroup => 0x08
  | .stopActive => 0x09
  | .misaligned => 0x0A
  | .tooLarge => 0x0B
  | .worn => 0x0C
  | .badCheck => 0x0D
  | .overrun => 0x0E

/-- The link error code of a note as a status (R159, R160). -/
def NoteCode.status : NoteCode → Status
  | .badCheck => .badCheck
  | .overrun => .overrun

/-- What a block answers a request with: a status and the data after it (R160). -/
structure Answer where
  status : Status
  data : List Byte
  deriving DecidableEq, Repr

/-- DONE with the given data. -/
def Answer.done (data : List Byte) : Answer := { status := .done, data := data }

/-- A refusal without data. -/
def Answer.refuse (st : Status) : Answer := { status := st, data := [] }

/-- BAD_FIELD with the number of the first field refused. -/
def Answer.badField (n : Nat) : Answer := { status := .badField, data := [byteOf n] }

/-- Setup state codes (R164). -/
def SetupState.code : SetupState → Byte
  | .none => 0
  | .loaded => 1
  | .active => 2
  | .ended => 3

/-- Slot state codes (R164). -/
def SlotState.code : SlotState → Byte
  | .empty => 0
  | .filling => 1
  | .full => 2

/-- Station state codes (R164). -/
def StationState.code : StationState → Byte
  | .off => 0
  | .idle => 1
  | .spinup => 2
  | .cutting => 3
  | .dressing => 4
  | .waiting => 5
  | .held => 6
  | .parked => 7
  | .stalled => 8
  | .stopped => 9
  | .done => 10

/-- Return state codes (R164). -/
def ReturnState.code : ReturnState → Byte
  | .work => 0
  | .idle => 1
  | .done => 2

/-- Phase codes (R164). -/
def Phase.code : Phase → Byte
  | .rough => 0
  | .finish => 1

/-- Dress mode codes (R163, R164). -/
def DressMode.code : DressMode → Byte
  | .full => 0
  | .half => 1
  | .quarter => 2

/-- The dress mode of a mode byte (R163). -/
def dressModeOf (n : Nat) : Option DressMode :=
  if n = 0 then some .full else if n = 1 then some .half else if n = 2 then some .quarter else none

/-- The trigger mode of a mode byte (R163). -/
def triggerOf (n : Nat) : Option Trigger :=
  if n = 0 then some .atMark else if n = 1 then some .lead else if n = 2 then some .step else none

/-- The number of a notice source (R148). -/
def Source.number : Source → Byte
  | .station p => byteOf p.val
  | .global => 7

/-! ## STATION CONFIG -/

/-- The configuration record a STATION CONFIG payload carries (R163). -/
def configOf (l : List Byte) : StationConfig :=
  { scale := halfAt l 1, offset := signedHalfAt l 3, depthLimit := halfAt l 5, allowance := halfAt l 7,
    bite := halfAt l 9, finishEnabled := decide (byteAt l 11 = 1), trigger := (triggerOf (byteAt l 12)).getD .atMark,
    avgDepth := byteAt l 13, startPeriod := halfAt l 14, lead := byteAt l 16, blank := byteAt l 17,
    miss := byteAt l 18, forcedLimit := byteAt l 19, approach := halfAt l 20, settle := byteAt l 22,
    dressTimeout := byteAt l 23, hardness := byteAt l 24, overload := halfAt l 25, spall := halfAt l 27 }

/-- The range checks of fields 2 to 20 in order, then the allowance against the bite, refused as field 5 (R107). -/
def configChecks (l : List Byte) : List (Nat × Bool) :=
  let c := configOf l
  [(2, inRange 4096 32768 c.scale), (3, decide (-2000 ≤ c.offset) && decide (c.offset ≤ 2000)),
   (4, inRange 1 40000 c.depthLimit), (5, inRange 0 500 c.allowance), (6, inRange 1 1000 c.bite),
   (7, inRange 0 1 (byteAt l 11)), (8, (triggerOf (byteAt l 12)).isSome),
   (9, decide (c.avgDepth ∈ [1, 2, 4, 8])), (10, inRange 1 65535 c.startPeriod), (11, inRange 0 127 c.lead),
   (12, inRange 0 127 c.blank), (13, inRange 65 255 c.miss), (14, inRange 0 3 c.forcedLimit),
   (15, inRange 1 65535 c.approach), (16, inRange 1 255 c.settle), (17, inRange 1 255 c.dressTimeout),
   (18, inRange 0 255 c.hardness), (19, inRange 1 1023 c.overload), (20, inRange 1 2046 c.spall),
   (5, decide (c.allowance ≤ c.bite))]

/-! ## Drive words -/

/-- The code and argument bytes of a drive command (R165). -/
def DriveCmd.body : DriveCmd → List Byte
  | .run column rows => [0x01, byteOf column, byteOf rows, 0]
  | .plunge setpoint => 0x02 :: halfBytes setpoint ++ [0]
  | .lift => [0x03, 0, 0, 0]
  | .spinOn => [0x04, 0, 0, 0]
  | .spinOff => [0x05, 0, 0, 0]
  | .dress quarters gauge number => [0x06, byteOf quarters, flagByte gauge, byteOf number]

/-! ## The check byte -/

/-- One bit of the CRC-8: shift left, and take the generator 07h off when a 1 falls out (R157). -/
def crcBit (r : Byte) : Byte := if r.getLsbD 7 then (r <<< 1) ^^^ 0x07 else r <<< 1

/-- The remainder after one more byte, most significant bit first (R157). -/
def crcByte (r b : Byte) : Byte := crcBit (crcBit (crcBit (crcBit (crcBit (crcBit (crcBit (crcBit (r ^^^ b))))))))

/-- The CRC-8 over bytes in the order sent, initial value 00h (R157). -/
def crc8 (bytes : List Byte) : Byte := bytes.foldl crcByte 0

/-- The five bytes of a command word (R165). -/
def DriveCmd.word (c : DriveCmd) : List Byte := c.body ++ [crc8 c.body]

/-- The bytes of a link frame on the line (R155, R157, R163). -/
def Frame.bytes (f : Frame) : List Byte :=
  let inner := halfBytes (f.payload.length + 2) ++ [f.kind, f.tag] ++ f.payload
  0xA5 :: inner ++ [crc8 inner]

end Sys2Proof.Machine
end

