-- ==== Sys2Proof/Machine/Updates.lean ====
section
/-! DEFINITION. The named updates of the state that the operations are made of: each replaces one field and keeps every
other (lemmas in Laws/State.lean). -/

namespace Sys2Proof.Machine

/-- The state with the link receiver replaced. -/
def State.setReceiver (s : State) (r : Receiver) : State := { s with receiver := r }

/-- The state with the receive list replaced. -/
def State.setList (s : State) (l : List Entry) : State := { s with recvList := l }

/-- The state with the reply slot replaced. -/
def State.setReply (s : State) (r : Option Frame) : State := { s with replySlot := r }

/-- The state with the frame being sent replaced. -/
def State.setSending (s : State) (b : Option (List Byte)) : State := { s with sending := b }

/-- The state with the notice queue replaced. -/
def State.setQueue (s : State) (q : List Source) : State := { s with noticeQueue := q }

/-- The state with a RESET request being carried out, or not. -/
def State.setResetting (s : State) (b : Bool) : State := { s with resetting := b }

/-- The state with the setup state replaced. -/
def State.setSetup (s : State) (st : SetupState) : State := { s with setup := st }

/-- The state with the W, H and S and the exponent k of the setup record replaced. -/
def State.setFace (s : State) (f : Option Face) (k : Nat) : State := { s with face := f, tickExp := k }

/-- The state with the participation set replaced. -/
def State.setMembers (s : State) (m : List StationId) : State := { s with members := m }

/-- The state with the window table replaced. -/
def State.setWindows (s : State) (w : Vector (Option Window) 4) : State := { s with windows := w }

/-- The state with the two strip slots replaced. -/
def State.setSlots (s : State) (v : Vector Slot 2) : State := { s with slots := v }

/-- The state with the next expected row replaced. -/
def State.setNextRow (s : State) (r : Nat) : State := { s with nextRow := r }

/-- The state with "strip 0 released" replaced. -/
def State.setReleased (s : State) (b : Bool) : State := { s with strip0Released := b }

/-- The state with the stations replaced. -/
def State.setStations (s : State) (v : Vector Station 6) : State := { s with stations := v }

/-- The state with the notice sets of source 7 replaced. -/
def State.setGlobal (s : State) (n : NoticeSets) : State := { s with globalNotices := n }

/-- The state with the reference level of the stop line replaced. -/
def State.setStopLine (s : State) (b : Bool) : State := { s with stopLine := b }

/-- The state at another tick boundary. -/
def State.setTick (s : State) (t : Nat) : State := { s with tick := t }

/-- The state with the queue of waiting commands replaced. -/
def State.setPending (s : State) (q : List Instr) : State := { s with pending := q }

end Sys2Proof.Machine
end

