-- ==== Sys2Proof/Machine/Flags.lean ====
section
/-! DEFINITION. The Notice Unit: the notice flags, setting one, and the effect of a mask on the queue
(R148 to R150, R153). -/

namespace Sys2Proof.Machine

/-! ## The flags of a station source (R163) -/

def flagStripDone : FlagSet := 0x001
def flagStationDone : FlagSet := 0x002
def flagMissed : FlagSet := 0x004
def flagStalled : FlagSet := 0x008
def flagLate : FlagSet := 0x010
def flagSpall : FlagSet := 0x020
def flagOverload : FlagSet := 0x040
def flagWorn : FlagSet := 0x080
def flagDressTimeout : FlagSet := 0x100

/-! ## The flags of source 7 (R163) -/

def flagSlotFree : FlagSet := 0x1
def flagSetupEnded : FlagSet := 0x2
def flagStopOn : FlagSet := 0x4
def flagStopOff : FlagSet := 0x8

/-- All the flags of a source (R148). -/
def Source.allFlags : Source → FlagSet
  | .station _ => 0x1FF
  | .global => 0xF

/-- The pending and enabled set of a source (R148). -/
def State.noticeSets (s : State) : Source → NoticeSets
  | .station p => s.stations[p].notices
  | .global => s.globalNotices

/-- The state with the two sets of a source replaced. -/
def State.setNoticeSets (s : State) (src : Source) (n : NoticeSets) : State :=
  match src with
  | .station p => s.setStations (s.stations.set p { s.stations[p] with notices := n })
  | .global => s.setGlobal n

/-- The state with a source at the tail of the notice queue, unless it is in the queue (R149, R150). -/
def State.queueSource (s : State) (src : Source) : State :=
  if src ∈ s.noticeQueue then s else s.setQueue (s.noticeQueue ++ [src])

/-- A block sets one flag of a source (R149). -/
def setFlag (src : Source) (flag : FlagSet) (s : State) : State :=
  let n := s.noticeSets src
  if n.pending &&& flag ≠ 0 then s
  else
    let s' := s.setNoticeSets src { n with pending := n.pending ||| flag }
    if n.enabled &&& flag ≠ 0 then s'.queueSource src else s'

/-- The named flags all belong to the source (R152 check 3). -/
def belongs (src : Source) (flags : FlagSet) : Bool := flags &&& ~~~ src.allFlags == 0

/-- A source's enabled set is replaced, and the source queued if a pending flag has become enabled (R153). -/
def maskSource (src : Source) (enable : FlagSet) (s : State) : State :=
  let n := s.noticeSets src
  let s' := s.setNoticeSets src { n with enabled := enable }
  if n.pending &&& enable &&& ~~~ n.enabled ≠ 0 then s'.queueSource src else s'

/-- The named flags are removed from a source's pending set (R152). -/
def clearSource (src : Source) (flags : FlagSet) (s : State) : State :=
  let n := s.noticeSets src
  s.setNoticeSets src { n with pending := n.pending &&& ~~~ flags }

/-- A source's pending and enabled set, as NOTICE MASK and NOTICE CLEAR reply them (R164). -/
def noticeData (n : NoticeSets) : List Byte := halfBytes n.pending.toNat ++ halfBytes n.enabled.toNat

end Sys2Proof.Machine
end

