-- ==== Sys2Proof/Machine/Ops.lean ====
section
/-! DEFINITION. The named operations over the state: stations, station sets, timers, drive ports, resets. -/

namespace Sys2Proof.Machine

/-! ## Stations -/

/-- The six stations in increasing number. -/
def allStations : List StationId := [0, 1, 2, 3, 4, 5]

/-- The record of a station. -/
def State.st (s : State) (p : StationId) : Station := s.stations[p]

/-- The state with the record of one station changed. -/
def State.modSt (s : State) (p : StationId) (f : Station → Station) : State :=
  s.setStations (s.stations.set p (f s.stations[p]))

/-- A station operation carried out on each station in increasing number. -/
def forStations (f : StationId → State → State) (s : State) : State := allStations.foldl (fun s p => f p s) s

/-- What the station's rules read of its configuration record (R107). -/
def Station.cfg (x : Station) : StationConfig := x.config.getD StationConfig.absent

/-- A saturating count of 16 bits, one more (00_scope 4.1). -/
def satUp (n : Nat) : Nat := min Config.countMax (n + 1)

/-! ## Sets of stations, in increasing order and without repeats (R11, R15) -/

/-- The set with a station joined. -/
def joinSet (p : StationId) (set : List StationId) : List StationId :=
  allStations.filter (fun q => decide (q = p ∨ q ∈ set))

/-- The set with a station removed. -/
def leaveSet (p : StationId) (set : List StationId) : List StationId := set.filter (fun q => decide (q ≠ p))

/-! ## Timers (R14, R73) -/

/-- A timer started now with a duration in ticks; one of duration 0 expires as it is started (R14). -/
def startTimer (now duration : Nat) : Option Nat := if duration = 0 then none else some (now + duration)

/-- The expiry of a timer: it occurs once the tick boundary that the timer runs to has come. A stopped timer has no
expiry, and a timer restarted at this boundary runs to a later one (R14, R98; notes/assumptions/6.md). -/
def atExpiry (timer : Option Nat) (effect : State → State) (s : State) : State :=
  match timer with
  | none => s
  | some t => if s.inReset ∨ s.tick < t then s else effect s

/-- The cell-timing timers stopped (R73). -/
def Timers.stopCell (t : Timers) : Timers := { t with approach := none, lead := none, blank := none, miss := none }

/-- What leaving CUTTING does: the cell-timing timers stop, the capture reference becomes absent, the plan with its
pending setpoint is discarded (R73, R74, R89). -/
def Station.leaveCutting (x : Station) : Station :=
  { x with timers := x.timers.stopCell, captureRef := none, plan := none }

/-- The averaged period P (R76, R77). -/
def Station.period (x : Station) : Nat :=
  match x.config with
  | none => 0
  | some c =>
    let newest := x.captures.take c.avgDepth
    if newest = [] then c.startPeriod else newest.sum / newest.length

/-- The captures held, as reported (R77). -/
def Station.held (x : Station) : Nat := if x.config.isSome then x.captures.length else 0

/-- The lead delay (R78). -/
def Station.leadDelay (x : Station) : Nat := x.period * x.cfg.lead / 128

/-- The blank window (R78, R80). -/
def Station.blankWindow (x : Station) : Nat := x.period * x.cfg.blank / 128

/-- The miss timeout (R78, R92). -/
def Station.missTimeout (x : Station) : Nat := x.period * x.cfg.miss / 64

/-! ## Drive ports (R166) -/

/-- LIFT and SPIN OFF, which a full queue does not turn away (R166). -/
def DriveCmd.stops : DriveCmd → Bool
  | .lift => true
  | .spinOff => true
  | .run _ _ => false
  | .plunge _ => false
  | .spinOn => false
  | .dress _ _ _ => false

/-- Every unsent RUN, PLUNGE, DRESS and SPIN ON word removed; the word being sent, at the head, stays (R166). -/
def purgeQueue : List DriveCmd → List DriveCmd
  | [] => []
  | sent :: unsent => sent :: unsent.filter DriveCmd.stops

/-- A command is appended to a command queue (R166). -/
def enqueueCmd (c : DriveCmd) (q : List DriveCmd) : List DriveCmd :=
  if q.length < Config.queueDepth then q ++ [c]
  else if !c.stops then q
  else if (purgeQueue q).length < Config.queueDepth then purgeQueue q ++ [c]
  else if c ∈ (purgeQueue q).tail then purgeQueue q
  else (purgeQueue q).take 1 ++ (purgeQueue q).drop 2 ++ [c]

/-- A port with a command appended (R166). -/
def Port.issue (c : DriveCmd) (o : Port) : Port := { o with queue := enqueueCmd c o.queue }

/-- A station sends a command to its drive (R166). -/
def issue (p : StationId) (c : DriveCmd) (s : State) : State :=
  s.modSt p (fun x => { x with port := x.port.issue c })

/-- LIFT and then SPIN OFF (R9, R101, R119, R120, R134). -/
def issueLiftOff (p : StationId) (s : State) : State := issue p .spinOff (issue p .lift s)

/-! ## Master strips (R3, R15, R61) -/

/-- The slot that strip k is stored in (R15). -/
def slotOf (k : Nat) : Fin 2 := ⟨k % 2, Nat.mod_lt k (by decide)⟩

/-- W of the face; 0 in NONE, as STATUS reports it (R6). -/
def State.width (s : State) : Nat := (s.face.map Face.w).getD 0

/-- H of the face; 0 in NONE (R6). -/
def State.height (s : State) : Nat := (s.face.map Face.h).getD 0

/-- S, the strips of the face; 0 in NONE (R6). -/
def State.strips (s : State) : Nat := (s.face.map Face.strips).getD 0

/-- n(k), the rows of strip k (R3). -/
def State.rowsOf (s : State) (k : Nat) : Nat :=
  if k + 1 < s.strips then Config.rowsPerStrip else s.height - Config.rowsPerStrip * (s.strips - 1)

/-- The slot of strip k is FULL with strip k (R61). -/
def State.stripReady (s : State) (k : Nat) : Bool :=
  decide (s.slots[slotOf k].state = .full) && decide (s.slots[slotOf k].strip = some k)

/-- A value of a table of rows; 0 outside it. -/
def cellAt (table : List (List Nat)) (row col : Nat) : Nat := (table.getD row []).getD col 0

/-- A table of rows with one value replaced. -/
def setCell (table : List (List Nat)) (row col v : Nat) : List (List Nat) :=
  table.set row ((table.getD row []).set col v)

/-! ## Resets (R162, R168) -/

/-- The part in reset: every block at its reset value, nothing on any line, the pin low (notes/assumptions/11.md). -/
def holdInReset (s : State) : State :=
  { State.cleared 0 s.stopLine with baud := s.baud, inReset := true, tick := s.tick, pending := s.pending }

/-- A reset completes: reset values, LIFT and SPIN OFF on every port, the straps read, the stop line sampled and
STOP_ON set if it is asserted (R120, R148, R162, R166, R168). -/
def completeReset (straps : BitVec 2) (stop : Bool) (s : State) : State :=
  let r : State := { State.cleared straps stop with
    stations := Vector.replicate 6 Station.reset, tick := s.tick, pending := s.pending }
  if stop then setFlag .global flagStopOn r else r

end Sys2Proof.Machine
end

