-- ==== Sys2Proof/Machine/Depth.lean ====
section
/-! DEFINITION. The depth arithmetic of a cell and the run plan (R34 to R47, R55, R64). -/

namespace Sys2Proof.Machine

/-- Stage 1: the scaled target, rounded half up (R34). -/
def scaledTarget (m scale : Nat) : Nat := (m * scale + 8192) / 16384

/-- The scaled target with the offset, before the clamps of stage 2 (R35). -/
def offsetTarget (c : StationConfig) (m : Nat) : Int := (scaledTarget m c.scale : Int) + c.offset

/-- The upper clamp of stage 2 acts (R35). -/
def clampedAbove (c : StationConfig) (m : Nat) : Bool := decide ((c.depthLimit : Int) < offsetTarget c m)

/-- Stage 2: the target, bounded to 0..Dmax (R35). -/
def target (c : StationConfig) (m : Nat) : Nat :=
  if offsetTarget c m < 0 then 0
  else if clampedAbove c m then c.depthLimit
  else (offsetTarget c m).toNat

/-- Stage 3: the phase target (R37). -/
def phaseTarget (c : StationConfig) (phase : Phase) (t : Nat) : Nat :=
  match phase with
  | .rough => if t ≤ c.allowance then 0 else t - c.allowance
  | .finish => t

/-- The cut decision of stage 4 (R42). -/
def isCut (guarded : Bool) (tp beff d : Nat) : Bool := !guarded && decide (d < min tp (d + beff))

/-- Stages 4 to 6 for a cell of phase target tp and stock depth d: planned depth, cut and short flag, setpoint
(R42, R44, R45). -/
def cellPlan (guarded : Bool) (tp beff wear d : Nat) : CellPlan :=
  let depth := if isCut guarded tp beff d then min tp (d + beff) else d
  { depth := depth, stock := d, cut := isCut guarded tp beff d, short := !guarded && decide (depth < tp),
    setpoint := depth + wear }

/-- A window protects a cell (R64). -/
def Window.protects (w : Window) (row col : Nat) : Bool :=
  decide (row / 2 ^ w.rowExp = w.baseRow / 2 ^ w.rowExp) && decide (col / 2 ^ w.colExp = w.baseCol / 2 ^ w.colExp)

/-- At least one non-empty slot of the window table protects the cell (R64). -/
def State.guarded (s : State) (row col : Nat) : Bool :=
  s.windows.toList.any (fun o => match o with
    | none => false
    | some w => w.protects row col)

/-- The sample of row j of strip k at a column (R23). -/
def State.sample (s : State) (k j col : Nat) : Nat := cellAt s.slots[slotOf k].samples j col

/-- The entry of run cell j in the plan of the column the position names (R32, R55). -/
def planEntry (s : State) (x : Station) (w : Work) (j : Nat) : CellPlan :=
  cellPlan (s.guarded (Config.rowsPerStrip * x.strip + j) w.column)
    (phaseTarget x.cfg w.phase (target x.cfg (s.sample x.strip j w.column)))
    x.beff x.dress.wear (cellAt w.stock j w.column)

/-- The run plan of the column the position names (R55, R56). -/
def buildPlan (s : State) (x : Station) (w : Work) : Plan :=
  let n := s.rowsOf x.strip
  let cells := (List.range n).map (planEntry s x w)
  { column := w.column, phase := w.phase, pass := w.pass, rows := n, cells := cells,
    runCut := cells.countP CellPlan.cut, shortCount := cells.countP CellPlan.short, next := 0,
    pendingSetpoint := none }

/-- The cells of the plan at which the upper clamp acts (R36). -/
def clampedCells (s : State) (x : Station) (w : Work) : Nat :=
  (List.range (s.rowsOf x.strip)).countP (fun j => clampedAbove x.cfg (s.sample x.strip j w.column))

/-- The entry of run cell j of a plan. -/
def Plan.cell (pl : Plan) (j : Nat) : CellPlan :=
  pl.cells.getD j { depth := 0, stock := 0, cut := false, short := false, setpoint := 0 }

/-- The floor of the effective bite (R40). -/
def biteFloor (bite : Nat) : Nat := max 1 (bite / 4)

end Sys2Proof.Machine
end

