-- ==== Sys2Proof/Machine/Buffer.lean ====
section
/-! DEFINITION. Shared operations of the Master Strip Buffer and the Setup Table: strip-done, release, the end of the
setup (R12, R24 to R26, R30, R31). -/

namespace Sys2Proof.Machine

/-- Both slots EMPTY (R30, R31). -/
def State.emptySlots (s : State) : State := s.setSlots (Vector.replicate 2 Slot.cleared)

/-- The starting state of the buffer (R31). -/
def State.startBuffer (s : State) : State := (s.emptySlots.setNextRow 0).setReleased false

/-- A slot passes the release test (R25). -/
def State.releasable (s : State) (i : Fin 2) : Bool :=
  decide (s.setup = .active) && decide (s.slots[i].state = .full) && decide (s.members ≠ []) &&
    s.members.all (fun p => decide (p ∈ s.slots[i].finished))

/-- A slot is released: EMPTY, strip 0 released if it held strip 0, SLOT_FREE set (R25). -/
def releaseSlot (i : Fin 2) (s : State) : State :=
  setFlag .global flagSlotFree
    ((s.setSlots (s.slots.set i Slot.cleared)).setReleased
      (s.strip0Released || decide (s.slots[i].strip = some 0)))

/-- The release test is made for a slot (R25). -/
def releaseTest (i : Fin 2) (s : State) : State := if s.releasable i then releaseSlot i s else s

/-- The release test for both slots, the one with the lower strip first (R25). -/
def releaseBoth (s : State) : State :=
  match s.slots[(0 : Fin 2)].strip, s.slots[(1 : Fin 2)].strip with
  | some a, some b => if b < a then releaseTest 0 (releaseTest 1 s) else releaseTest 1 (releaseTest 0 s)
  | _, _ => releaseTest 1 (releaseTest 0 s)

/-- A station finishes strip k: it joins the finished set and the release test of that slot is made (R24). -/
def stripDoneEvent (p : StationId) (k : Nat) (s : State) : State :=
  let i := slotOf k
  let slot := s.slots[i]
  releaseTest i (s.setSlots (s.slots.set i { slot with finished := joinSet p slot.finished }))

/-- The setup enters ENDED (R12). -/
def endSetup (s : State) : State := setFlag .global flagSetupEnded (s.setSetup .ended)

/-- Every member of the participation set is DONE (R12). -/
def State.allDone (s : State) : Bool := s.members.all (fun p => decide ((s.st p).state = .done))

/-- The end test by completion (R12). -/
def endTest (s : State) : State :=
  if s.setup = .active ∧ s.members ≠ [] ∧ s.allDone = true then endSetup s else s

/-- The buffer and the Setup Table learn of an ABORT after the station has left the set (R26, R30). -/
def bufferAbort (p : StationId) (s : State) : State :=
  let drop (slot : Slot) : Slot := { slot with finished := leaveSet p slot.finished }
  let s1 := s.setSlots ((s.slots.set 0 (drop s.slots[(0 : Fin 2)])).set 1 (drop s.slots[(1 : Fin 2)]))
  if s1.members = [] then
    if s1.setup = .active then endSetup s1.emptySlots else s1.emptySlots
  else endTest (releaseBoth s1)

end Sys2Proof.Machine
end

