-- ==== Sys2Proof/Machine/Load.lean ====
section
/-! DEFINITION. The Load Monitor and the recorded exit of a cell (R53, R125, R141 to R146). -/

namespace Sys2Proof.Machine

/-- The expected load of a cut of the given bite (R142). -/
def expectedLoad (hardness bite : Nat) : Nat := min 1023 (hardness * bite / 16)

/-- The residual of a load (R142). -/
def residual (hardness bite load : Nat) : Int := (load : Int) - (expectedLoad hardness bite : Int)

/-- The quarters of an owed dressing (R125). -/
def DressMode.quarters : DressMode → Nat
  | .full => 4
  | .half => 2
  | .quarter => 1

/-- The cut cells per owed dressing (R125). -/
def DressRecord.threshold (r : DressRecord) : Nat :=
  match r.mode with
  | .full => r.interval
  | .half => r.interval / 2
  | .quarter => r.interval / 4

/-- The due count rises by one, and a dressing falls due at the threshold (R125). -/
def DressRecord.countCut (r : DressRecord) : DressRecord :=
  if r.threshold ≤ r.due + 1 then { r with due := 0, owed := satUp r.owed } else { r with due := r.due + 1 }

/-- What an overload does to the station (R143). -/
def Station.overloadHit (x : Station) : Station :=
  { x with
    counts := { x.counts with overload := satUp x.counts.overload }
    work := x.work.map (fun w => { w with overloaded := true })
    beff :=
      if x.work.map Work.phase = some .rough then max (x.beff / 2) (biteFloor x.cfg.bite) else x.beff }

/-- The residual r is an overload (R143). -/
def Station.overloadAt (x : Station) (r : Int) : Bool := decide ((x.cfg.overload : Int) < r)

/-- The residual r is a spall after the previous residual (R145). -/
def Station.spallAt (x : Station) (r : Int) : Bool :=
  match x.prevResidual with
  | none => false
  | some q => decide ((x.cfg.spall : Int) < q - r)

/-- A load check of a cut cell: overload, spall, and the new previous residual (R143, R145, R147). The Bool says
whether a spall was found. -/
def loadCheck (p : StationId) (bite load : Nat) (s : State) : State × Bool :=
  let x := s.st p
  let r := residual x.cfg.hardness bite load
  let s1 :=
    if x.overloadAt r then setFlag (.station p) flagOverload (s.modSt p Station.overloadHit) else s
  let s2 := if x.spallAt r then setFlag (.station p) flagSpall s1 else s1
  (s2.modSt p (fun y => { y with prevResidual := some r }), x.spallAt r)

/-- Steps 1 and 2 of a recorded exit of cell j of the run, and the advance of the next-cell index (R53, R79). -/
def Station.exitCell (x : Station) (pl : Plan) (j : Nat) : Station :=
  let e := pl.cell j
  { x with
    work := if e.cut then x.work.map (fun w => { w with stock := setCell w.stock j pl.column e.depth }) else x.work
    dress := if e.cut then x.dress.countCut else x.dress
    plan := some { pl with next := j + 2 } }

/-- The exit of cell j of the run is recorded, with the load of the mark if it carries a valid one (R53, R141). The
Bool says whether the load check found a spall. -/
def recordExit (p : StationId) (pl : Plan) (j : Nat) (load : Option Nat) (s : State) : State × Bool :=
  let s1 := s.modSt p (fun x => x.exitCell pl j)
  match load with
  | none => (s1.modSt p (fun x => { x with prevResidual := none }), false)
  | some l =>
    if (pl.cell j).cut then loadCheck p ((pl.cell j).depth - (pl.cell j).stock) l s1
    else (s1.modSt p (fun x => { x with prevResidual := none }), false)

end Sys2Proof.Machine
end

