-- ==== Sys2Proof/Machine/Sequencer.lean ====
section
/-! DEFINITION. The shared operations of the Station Sequencer: holds, parks, dressings, spin-ups, planning, run ends,
pass ends, strip done and take-up (R56 to R61, R87, R88, R109 to R113, R117, R127 to R133, R144). -/

namespace Sys2Proof.Machine

/-! ## Entering the states that wait -/

/-- A park is taken: SPIN OFF and PARKED; a pending park and hold become no (R116, R117, R130 step 6). -/
def takePark (p : StationId) (s : State) : State :=
  (issue p .spinOff s).modSt p (fun x =>
    { x.leaveCutting with state := .parked, parkPending := false, holdPending := false })

/-- A station enters HELD; with a park pending it passes through at once to PARKED (R114, R117, R146). -/
def enterHeld (p : StationId) (toSpinup : Bool) (s : State) : State :=
  let s1 := s.modSt p (fun x =>
    { x.leaveCutting with state := .held, holdPending := false, resumeSpinup := toSpinup })
  if (s.st p).parkPending then takePark p s1 else s1

/-- A station enters SPINUP (R109). -/
def enterSpinup (p : StationId) (s : State) : State :=
  (issue p .spinOn s).modSt p (fun x =>
    { x with
      state := .spinup, captures := [], captureRef := none, resumeSpinup := false
      timers := { x.timers with settle := startTimer s.tick (x.cfg.settle * 1024) } })

/-- A station stalls, with the flag of the cause (R101, R134). -/
def stallStation (p : StationId) (flag : FlagSet) (s : State) : State :=
  setFlag (.station p) flag
    ((issueLiftOff p s).modSt p (fun x =>
      { x.leaveCutting with
        state := .stalled, holdPending := false, parkPending := false
        timers := Timers.stopped, dress := { x.dress with inFlight := none } }))

/-- What the stop line does to a working station (R120). -/
def stopStation (p : StationId) (s : State) : State :=
  (issueLiftOff p s).modSt p (fun x =>
    { x.leaveCutting with
      state := .stopped, holdPending := false, parkPending := false, resumeSpinup := false
      timers := Timers.stopped, dress := { x.dress with inFlight := none } })

/-- What ABORT and SETUP CLOSE leave of a station: OFF, with its counts, Beff, notices and the rest of its dressing
record (R9, R105, R119, R124). DESIGN CHOICE (notes/assumptions/25.md): the owed count becomes 0 also when a closing
dressing is cut short, as R9, R119, R124 and R135 say and R128 denies. -/
def Station.shutOff (x : Station) : Station :=
  { x with
    state := .off, ret := .work, holdPending := false, parkPending := false, resumeSpinup := false, strip := 0
    config := none, work := none, plan := none, captures := [], captureRef := none, timers := Timers.stopped
    dress := { x.dress with inFlight := none, owed := 0 } }

/-! ## Dressings -/

/-- DRESS is sent, the dressing is in flight, the dress timer starts and the station enters DRESSING (R127, R128). -/
def startDressing (p : StationId) (kind : DressKind) (quarters : Nat) (gauge : Bool) (s : State) : State :=
  let number := ((s.st p).dress.number + 1) % 16
  (issue p (.dress quarters gauge number) s).modSt p (fun x =>
    { x.leaveCutting with
      state := .dressing
      timers := { Timers.stopped with dress := startTimer s.tick (x.cfg.dressTimeout * 4096) }
      dress := { x.dress with
        number := number
        inFlight := some { quarters := quarters, gauge := gauge, number := number, kind := kind } } })

/-- The next owed dressing is taken (R126, R127). -/
def startOwed (p : StationId) (point : CallPoint) (s : State) : State :=
  let r := (s.st p).dress
  startDressing p (.owed point) r.mode.quarters (decide ((r.qsum + r.mode.quarters) % 4 = 0)) s

/-- The closing dressing of a spin-up (R128). -/
def startClosing (p : StationId) (s : State) : State :=
  let q := (s.st p).dress.qsum
  startDressing p .closing (if q = 0 then 4 else 4 - q) true s

/-! ## Runs -/

/-- The next-cell index and the plan of a started run; in LEAD mode the plunge of cell 0 goes with RUN (R87). -/
def startRun (p : StationId) (pl : Plan) (s : State) : State :=
  let s1 := issue p (.run pl.column pl.rows) s
  let s2 := if (s.st p).cfg.trigger = .lead then issue p (.plunge (pl.cell 0).setpoint) s1 else s1
  s2.modSt p (fun x =>
    { x with
      plan := some pl, captureRef := none, prevResidual := none
      timers := { x.timers with
        miss := none, lead := none
        approach := if x.cfg.trigger = .step then none else startTimer s.tick (x.cfg.approach * 16) } })

/-- A plan without a cut cell is skipped (R57). -/
def skipRun (p : StationId) (pl : Plan) (s : State) : State :=
  s.modSt p (fun x =>
    { x with
      plan := none
      counts := { x.counts with skipped := satUp x.counts.skipped }
      work := x.work.map (fun w => { w with remaining := w.remaining + pl.shortCount, column := w.column + 1 }) })

/-- The clamp counter takes the clamped cells of a plan (R36). -/
def countClamped (p : StationId) (n : Nat) (s : State) : State :=
  s.modSt p (fun x => { x with counts := { x.counts with clamp := min Config.countMax (x.counts.clamp + n) } })

/-- A strip is taken up: a zero stock map, ROUGH, pass 1, column 0 (R61, R140). -/
def takeUp (p : StationId) (s : State) : State :=
  s.modSt p (fun x =>
    { x with
      plan := none
      work := some
        { stock := List.replicate (s.rowsOf x.strip) (List.replicate s.width 0), phase := .rough, pass := 1,
          column := 0, remaining := 0, overloaded := false, told := false } })

/-- A station finds its strip not FULL and enters WAITING (R112). -/
def enterWaiting (p : StationId) (s : State) : State :=
  s.modSt p (fun x => { x.leaveCutting with state := .waiting })

/-- The Load Monitor is told of the end of the pass, once for a pass (R60, R144). -/
def tellPassEnd (p : StationId) (s : State) : State :=
  s.modSt p (fun x =>
    match x.work with
    | none => x
    | some w =>
      { x with
        beff := if !w.told && decide (w.phase = .rough) && !w.overloaded then min x.cfg.bite (2 * x.beff) else x.beff
        work := some { w with told := true } })

/-- A new pass starts in a phase (R59). -/
def newPass (p : StationId) (phase : Phase) (s : State) : State :=
  s.modSt p (fun x =>
    { x with
      work := x.work.map (fun w =>
        { w with phase := phase, pass := min 65535 (w.pass + 1), column := 0, remaining := 0, overloaded := false,
                 told := false }) })

/-- What the pass-end evaluation decides: a new pass in a phase, or strip done (R59). -/
def passVerdict (finishEnabled : Bool) (w : Work) : Option Phase :=
  if w.remaining ≠ 0 then some w.phase
  else if w.phase = .rough ∧ finishEnabled = true then some .finish
  else none

/-- Steps 2 to 5 of strip done, up to the next strip's take-up: the map is discarded, the buffer and the Notice Unit
are told, the strip index rises, and after the last strip the station enters DONE (R24, R60, R113). -/
def finishStrip (p : StationId) (s : State) : State :=
  let k := (s.st p).strip
  let s1 := s.modSt p (fun x => { x with work := none, plan := none })
  let s2 := setFlag (.station p) flagStripDone (stripDoneEvent p k s1)
  let s3 := s2.modSt p (fun x => { x with strip := k + 1 })
  if k + 1 < s.strips then s3
  else
    endTest (setFlag (.station p) flagStationDone
      ((issue p .spinOff s3).modSt p (fun x => { x.leaveCutting with state := .done })))

/-- The station goes on in CUTTING: it plans the column of its position, skips runs, ends passes and strips, takes up
strips, until a run is in flight or the station has left CUTTING (R56 to R61, R111). The first argument bounds the
columns and passes gone through in one event (notes/assumptions/12.md). -/
def carryOn : Nat → StationId → State → State
  | 0, _, s => s
  | fuel + 1, p, s =>
    match (s.st p).work with
    | none =>
      if s.stripReady (s.st p).strip then carryOn fuel p (takeUp p s) else enterWaiting p s
    | some w =>
      if w.column < s.width then
        let pl := buildPlan s (s.st p) w
        let s1 := countClamped p (clampedCells s (s.st p) w) s
        if pl.runCut = 0 then carryOn fuel p (skipRun p pl s1) else startRun p pl s1
      else
        let s1 := tellPassEnd p s
        match passVerdict (s.st p).cfg.finishEnabled w with
        | some phase => carryOn fuel p (newPass p phase s1)
        | none =>
          if (s1.st p).dress.owed ≠ 0 then startOwed p .stripDone s1
          else
            let s2 := finishStrip p s1
            if (s2.st p).state = .done then s2 else carryOn fuel p s2

/-- More than the columns, pass ends and strips that one event can lead through: the pass in hand, one more in its
phase, a FINISH pass, and ROUGH and FINISH passes of the strips the two slots may still hold. -/
def planFuel (s : State) : Nat := 8 * (s.width + 2)

/-- The station takes its owed dressings, or goes on from the point that calls for them (R127). -/
def owedThenOn (p : StationId) (point : CallPoint) (s : State) : State :=
  if (s.st p).dress.owed ≠ 0 then startOwed p point s else carryOn (planFuel s) p s

/-- A station comes into CUTTING (R111). -/
def comeIntoCutting (p : StationId) (s : State) : State :=
  owedThenOn p .intoCutting (s.modSt p (fun x => { x with state := .cutting }))

/-- After the last owed dressing the station returns to CUTTING and goes on from the point that called (R130 step 7). -/
def afterOwed (p : StationId) (point : CallPoint) (s : State) : State :=
  let s1 := s.modSt p (fun x => { x with state := .cutting })
  match point with
  | .stripDone =>
    let s2 := finishStrip p s1
    if (s2.st p).state = .done then s2 else carryOn (planFuel s2) p s2
  | .runEnd => carryOn (planFuel s1) p s1
  | .intoCutting => carryOn (planFuel s1) p s1

/-- Steps 1 and 2 of a run end: LIFT, the short count added, the column advanced, the plan discarded (R88, R58). -/
def closeRun (p : StationId) (pl : Plan) (s : State) : State :=
  (issue p .lift s).modSt p (fun x =>
    { x with
      plan := none
      work := x.work.map (fun w => { w with remaining := w.remaining + pl.shortCount, column := w.column + 1 }) })

/-- A run ends: steps 1 to 5 of R88. -/
def endRun (p : StationId) (pl : Plan) (s : State) : State :=
  let s1 := closeRun p pl s
  if (s1.st p).parkPending then takePark p s1 else owedThenOn p .runEnd s1

/-- A run is cut short by HOLD or by a spall inside the run: LIFT, HELD (R114, R146). -/
def cutShort (p : StationId) (s : State) : State := enterHeld p false (issue p .lift s)

/-! ## The end of a dressing -/

/-- A gauge result is taken (R131); a length that is absent changes nothing (R132). -/
def DressRecord.takeGauge (r : DressRecord) (kind : DressKind) (length : Option Nat) : DressRecord :=
  match length with
  | none => r
  | some len =>
    let r1 : DressRecord :=
      match r.ref with
      | none => { r with ref := some len }
      | some ref =>
        if !r.worn then { r with wear := max r.wear (ref - len) }
        else match kind with
          | .closing => { r with ref := some len }
          | .owed _ => r
    { r1 with worn := r1.worn || decide (Config.wearMax < r1.wear) }

/-- Steps 2 and 3 of a completion: the quarters are credited and the owed counts change (R130). -/
def DressRecord.credit (r : DressRecord) (f : Dressing) : DressRecord :=
  let r1 := { r with inFlight := none, qsum := (r.qsum + f.quarters) % 4 }
  match f.kind with
  | .owed _ => { r1 with owed := r1.owed - 1 }
  | .closing => { r1 with due := 0, owed := 0 }

/-- The dressing record after a completion: credit, then the gauge result if one was asked for (R130 to R132). -/
def DressRecord.complete (r : DressRecord) (f : Dressing) (length : Option Nat) : DressRecord :=
  if f.gauge then (r.credit f).takeGauge f.kind length else r.credit f

/-- A station parks for wear (R133). -/
def parkForWear (p : StationId) (s : State) : State :=
  setFlag (.station p) flagWorn
    ((issue p .spinOff s).modSt p (fun x =>
      { x.leaveCutting with
        state := .parked, holdPending := false, parkPending := false, dress := { x.dress with owed := 0 } }))

/-- A spin-up ends where the return state leads (R110). -/
def endSpinup (p : StationId) (s : State) : State :=
  match (s.st p).ret with
  | .idle => (issue p .spinOff s).modSt p (fun x => { x with state := .idle, holdPending := false })
  | .done => endTest ((issue p .spinOff s).modSt p (fun x => { x with state := .done, holdPending := false }))
  | .work => comeIntoCutting p s

/-- The hold pending is taken at a completion, and not dropped: not after the closing dressing of a spin-up whose
return state is IDLE or DONE (R117). -/
def Station.takesHold (x : Station) (kind : DressKind) : Bool :=
  x.holdPending && !(decide (kind = .closing) && decide (x.ret ≠ .work))

/-- Steps 6 and 7 of a completion: a pending park or hold, the next owed dressing, or on from the point (R130). -/
def afterDressing (p : StationId) (kind : DressKind) (s : State) : State :=
  let x := s.st p
  if x.parkPending then takePark p s
  else if x.takesHold kind then enterHeld p false s
  else match kind with
    | .owed point => if x.dress.owed ≠ 0 then startOwed p point s else afterOwed p point s
    | .closing => endSpinup p s

/-- A gauge result that leaves the wear above WMAX sets WORN (R131, R148). -/
def gaugeWarns (f : Dressing) (length : Option Nat) (r : DressRecord) : Bool :=
  f.gauge && length.isSome && decide (Config.wearMax < r.wear)

/-- A dressing completes (R130). -/
def completeDressing (p : StationId) (f : Dressing) (length : Option Nat) (s : State) : State :=
  let s1 := s.modSt p (fun x =>
    { x with timers := { x.timers with dress := none }, dress := x.dress.complete f length })
  let s2 := if gaugeWarns f length (s1.st p).dress then setFlag (.station p) flagWorn s1 else s1
  if (s2.st p).dress.worn then parkForWear p s2 else afterDressing p f.kind s2

end Sys2Proof.Machine
end

