-- ==== Sys2Proof/Machine/Link.lean ====
section
/-! DEFINITION. The Link Interface: the receiver and the receive list, the handling of the head entry, the transmitter
(R151, R156 to R160). -/

namespace Sys2Proof.Machine

/-- What every meaning yields: the next state. -/
abbrev Result := Host.Outcome State Fault Refusal

/-- While a reset holds the part nothing is taken (R168; notes/assumptions/11.md). -/
def outOfReset (effect : State → State) (s : State) : State := if s.inReset then s else effect s

/-! ## Receiving -/

/-- The notes in the receive list (R158). -/
def noteCount (l : List Entry) : Nat := l.countP (fun e => match e with
  | .note _ _ => true
  | .frame _ => false)

/-- The frame entries in the receive list (R158). -/
def frameCount (l : List Entry) : Nat := l.countP (fun e => match e with
  | .note _ _ => false
  | .frame _ => true)

/-- An entry is appended to the receive list; the receiver becomes DEAF at four notes (R158). -/
def appendEntry (e : Entry) (s : State) : State :=
  let l := s.recvList ++ [e]
  (s.setList l).setReceiver (if noteCount l < Config.listDepth then s.receiver else .deaf)

/-- The entry of a frame received whole: `held` is kind, tag, payload and check byte (R157, R158). -/
def entryOf (s : State) (len : Nat) (held : List Byte) : Entry :=
  let inner := held.dropLast
  let tag := inner.getD 1 0
  if held.getLast? ≠ some (crc8 (halfBytes len ++ inner)) then .note tag .badCheck
  else if frameCount s.recvList < Config.listDepth then
    .frame { kind := inner.getD 0 0, tag := tag, payload := inner.drop 2 }
  else .note tag .overrun

/-- The receiver takes one byte (R156). -/
def receiveByte (s : State) (b : Byte) : State :=
  match s.receiver with
  | .deaf => s
  | .hunting => if b = 0xA5 then s.setReceiver (.length none) else s
  | .length none => s.setReceiver (.length (some b))
  | .length (some lo) =>
    let len := lo.toNat + 256 * b.toNat
    s.setReceiver (if inRange 2 1032 len then .body len [] else .hunting)
  | .body len held =>
    let held' := held ++ [b]
    if held'.length < len + 1 then s.setReceiver (.body len held')
    else appendEntry (entryOf s len held') (s.setReceiver .hunting)

/-- A partial frame is discarded and the receiver hunts; a DEAF receiver stays DEAF (R156). -/
def dropPartialFrame (s : State) : State :=
  s.setReceiver (if s.receiver = .deaf then .deaf else .hunting)

/-! ## Transmitting -/

/-- The notice frame of a source: kind 40h, tag 0, source number and flag set (R151, R163). -/
def noticeFrame (src : Source) (flags : FlagSet) : Frame :=
  { kind := 0x40, tag := 0, payload := src.number :: halfBytes flags.toNat }

/-- The flags of a source that are both pending and enabled (R151). -/
def State.reportable (s : State) (src : Source) : FlagSet :=
  (s.noticeSets src).pending &&& (s.noticeSets src).enabled

/-- The transmitter takes sources from the head of the notice queue until one has a flag to report; entries without
are dropped unsent (R151 step 2). -/
def sendNotice : List Source → State → State
  | [], s => (s.setQueue []).setSending none
  | src :: rest, s =>
    if s.reportable src = 0 then sendNotice rest s
    else (s.setQueue rest).setSending (some (noticeFrame src (s.reportable src)).bytes)

/-- The free transmitter chooses the next frame (R151); after a RESET request it sends no notice (R162). -/
def chooseFrame (s : State) : State :=
  match s.replySlot with
  | some r => (s.setReply none).setSending (some r.bytes)
  | none => if s.resetting then s.setSending none else sendNotice s.noticeQueue s

/-- A transmitter that is sending no frame chooses; one that is sending goes on (R151). It comes after the whole effect
of every command that places a reply or sets or enables a flag (notes/assumptions/3.md). -/
def transmit (s : State) : State := if s.sending.isSome then s else chooseFrame s

/-! ## Handling the head entry -/

/-- The reply to a frame: its kind + 80h, its tag, the status byte and the data (R159, R163). -/
def replyTo (f : Frame) (a : Answer) : Frame :=
  { kind := f.kind + 0x80, tag := f.tag, payload := a.status.code :: a.data }

/-- A LINK ERROR reply (R159). -/
def linkErrorReply (tag : Byte) (st : Status) : Frame := { kind := 0x7F, tag := tag, payload := [st.code] }

/-- The head entry is handled when the reply slot is empty and the list is not; after a RESET request no entry is
handled as a request (R159, R162). The head must be a frame of a kind that `takes` accepts. -/
def handleHead (takes : Byte → Bool) (block : Frame → State → State × Answer) (s : State) : State :=
  match s.replySlot, s.recvList with
  | none, .frame f :: rest =>
    if !s.resetting && takes f.kind then
      let r := block f (s.setList rest)
      transmit (r.1.setReply (some (replyTo f r.2)))
    else s
  | _, _ => s

/-- The request of one kind at the head is carried out by its block and answered (R159). -/
def handleRequest (kind : Byte) (block : List Byte → State → State × Answer) : State → State :=
  outOfReset (handleHead (fun k => k == kind) (fun f s => block f.payload s))

/-- A block that looks at the request first: refused with an answer and nothing changed, or carried out (R160). -/
def refusedOr (refusal : Option Answer) (effect : State × Answer) (s : State) : State × Answer :=
  match refusal with
  | some a => (s, a)
  | none => effect

/-- The length check that stands first for every kind (R160). -/
def checkLength (n : Nat) (payload : List Byte) : Option Answer :=
  if payload.length = n then none else some (.refuse .badLength)

/-- The check against the setup state of the requests that need a setup in LOADED or ACTIVE (R13). -/
def checkSetup (s : State) : Option Answer :=
  match s.setup with
  | .none => some (.refuse .noSetup)
  | .loaded => none
  | .active => none
  | .ended => some (.refuse .wrongState)

/-- A check that must hold, or else a refusal. -/
def checkThat (ok : Bool) (refusal : Answer) : Option Answer := if ok then none else some refusal

/-- The head of the receive list is answered with LINK ERROR: a note with its own code, and after a RESET request a
frame entry with OVERRUN (R159, R162). A removed note lets a DEAF receiver hunt, unless a RESET is carried out. -/
def answerNote (s : State) : State :=
  match s.replySlot, s.recvList with
  | none, .note tag code :: rest =>
    transmit (((s.setList rest).setReply (some (linkErrorReply tag code.status))).setReceiver
      (if s.receiver = .deaf ∧ s.resetting = false then .hunting else s.receiver))
  | none, .frame f :: rest =>
    if s.resetting then transmit ((s.setList rest).setReply (some (linkErrorReply f.tag .overrun))) else s
  | _, _ => s

/-- Every reply that a RESET request still owed has been sent (R162). -/
def State.repliesSent (s : State) : Bool :=
  s.resetting && decide (s.recvList = []) && decide (s.replySlot = none) && decide (s.sending = none)

end Sys2Proof.Machine
end

