-- ==== Sys2Proof/Machine/ControlCommands.lean ====
section
/-! DEFINITION. The station requests: STATION CONFIG, START, HOLD, RESUME, PARK, UNPARK, ABORT, DRESS MODE, TOOL
CHANGED, STATION STATUS, READ STOCK (R68, R106 to R122, R136, R137). -/

namespace Sys2Proof.Machine

/-- The station a request names; a request that reaches its effect names one (R106 step 3). -/
def namedStation (payload : List Byte) : StationId := (stationField payload).getD 0

/-- The station number is in 0..5 (R106 step 3). -/
def checkStation (payload : List Byte) : Option Answer :=
  checkThat (stationField payload).isSome (.badField 1)

/-- Length, station number and station state: steps 1, 3 and 4 of R106. -/
def checkNamed (n : Nat) (accepts : StationState → Bool) (payload : List Byte) (s : State) : Option Answer :=
  (checkLength n payload).or <|
  (checkStation payload).or <|
  checkThat (accepts (s.st (namedStation payload)).state) (.refuse .wrongState)

/-- The DONE data of HOLD, RESUME, PARK, UNPARK, ABORT and STEP (R106, R164). -/
def controlData (p : StationId) (s : State) : List Byte :=
  [(s.st p).state.code, flagByte (s.st p).holdPending, flagByte (s.st p).parkPending]

/-- A control request that passes its checks: its effect, and the station's state after it (R106). -/
def controlled (p : StationId) (s : State) : State × Answer := (s, .done (controlData p s))

/-! ## STATION CONFIG -/

/-- The checks of STATION CONFIG in order (R106, R107). -/
def stationConfigCheck (payload : List Byte) (s : State) : Option Answer :=
  (checkLength 29 payload).or <|
  (checkSetup s).or <|
  (checkStation payload).or <|
  (checkThat (decide ((s.st (namedStation payload)).state ∈ [StationState.off, .idle])) (.refuse .wrongState)).or <|
  (firstBad (configChecks payload)).map Answer.badField

/-- The configuration record is written and the station becomes IDLE (R107, R97). -/
def configure (p : StationId) (c : StationConfig) (s : State) : State :=
  s.modSt p (fun x => { x with config := some c, state := .idle, counts := { x.counts with forcedRun := 0 } })

/-- The STATION CONFIG request (R107). -/
def stationConfigBlock (payload : List Byte) (s : State) : State × Answer :=
  refusedOr (stationConfigCheck payload s)
    (configure (namedStation payload) (configOf payload) s, .done []) s

/-- STATION_CONFIG (R107). -/
def execStationConfig (s : State) : Result := .next (handleRequest 0x04 stationConfigBlock s)

/-! ## START -/

/-- The stations of a station set byte, in increasing number (R163). -/
def stationSet (set : Nat) : List StationId := allStations.filter (fun p => set.testBit p.val)

/-- The checks of START in order (R108). -/
def startCheck (payload : List Byte) (s : State) : Option Answer :=
  let set := byteAt payload 0
  (checkLength 1 payload).or <|
  (checkSetup s).or <|
  (checkThat (inRange 1 63 set) (.badField 1)).or <|
  (checkThat ((stationSet set).all (fun p => decide ((s.st p).state = .idle))) (.refuse .wrongState)).or <|
  (checkThat (!s.stopLine) (.refuse .stopActive)).or <|
  checkThat (!s.strip0Released) (.refuse .wrongState)

/-- What START sets in a station before it spins up (R108). -/
def Station.started (x : Station) : Station :=
  { x with
    strip := 0, ret := .work, holdPending := false, parkPending := false, beff := x.cfg.bite
    counts := Counts.zero, captures := [] }

/-- One named station is started (R108). -/
def startStation (s : State) (p : StationId) : State :=
  enterSpinup p ((s.setMembers (joinSet p s.members)).modSt p Station.started)

/-- The START request (R108, R10). -/
def startBlock (payload : List Byte) (s : State) : State × Answer :=
  refusedOr (startCheck payload s)
    (((stationSet (byteAt payload 0)).foldl startStation s).setSetup .active, .done []) s

/-- START (R108). -/
def execStart (s : State) : Result := .next (handleRequest 0x08 startBlock s)

/-! ## HOLD and RESUME -/

/-- The states in which HOLD is accepted (R106). -/
def holdAccepts : StationState → Bool
  | .spinup => true
  | .cutting => true
  | .dressing => true
  | .waiting => true
  | .held => true
  | .off => false
  | .idle => false
  | .parked => false
  | .stalled => false
  | .stopped => false
  | .done => false

/-- HOLD taken by the station's state (R114). -/
def holdStation (p : StationId) (s : State) : State :=
  match (s.st p).state with
  | .cutting => cutShort p s
  | .waiting => enterHeld p false s
  | .spinup => enterHeld p true (s.modSt p (fun x => { x with timers := { x.timers with settle := none } }))
  | .dressing => s.modSt p (fun x => { x with holdPending := true })
  | .held => s
  | .off => s
  | .idle => s
  | .parked => s
  | .stalled => s
  | .stopped => s
  | .done => s

/-- The HOLD request (R114). -/
def holdBlock (payload : List Byte) (s : State) : State × Answer :=
  let p := namedStation payload
  refusedOr (checkNamed 1 holdAccepts payload s) (controlled p (holdStation p s)) s

/-- HOLD (R114). -/
def execHold (s : State) : Result := .next (handleRequest 0x09 holdBlock s)

/-- The states in which RESUME is accepted (R106). -/
def resumeAccepts : StationState → Bool
  | .held => true
  | .stalled => true
  | .stopped => true
  | .off => false
  | .idle => false
  | .spinup => false
  | .cutting => false
  | .dressing => false
  | .waiting => false
  | .parked => false
  | .done => false

/-- The stop line, and then the worn flag, for RESUME and UNPARK (R115, R118). -/
def checkSpindle (payload : List Byte) (s : State) : Option Answer :=
  (checkThat (!s.stopLine) (.refuse .stopActive)).or <|
  checkThat (!(s.st (namedStation payload)).dress.worn) (.refuse .worn)

/-- RESUME taken by the station's state (R115). -/
def resumeStation (p : StationId) (s : State) : State :=
  if (s.st p).state = .held ∧ (s.st p).resumeSpinup = false then comeIntoCutting p s else enterSpinup p s

/-- The RESUME request (R115). -/
def resumeBlock (payload : List Byte) (s : State) : State × Answer :=
  let p := namedStation payload
  refusedOr ((checkNamed 1 resumeAccepts payload s).or (checkSpindle payload s)) (controlled p (resumeStation p s)) s

/-- RESUME (R115). -/
def execResume (s : State) : Result := .next (handleRequest 0x0A resumeBlock s)

/-! ## PARK and UNPARK -/

/-- The states in which PARK is accepted (R106). -/
def parkAccepts : StationState → Bool
  | .idle => true
  | .cutting => true
  | .dressing => true
  | .waiting => true
  | .held => true
  | .done => true
  | .off => false
  | .spinup => false
  | .parked => false
  | .stalled => false
  | .stopped => false

/-- PARK taken by the station's state (R116). -/
def parkStation (p : StationId) (s : State) : State :=
  match (s.st p).state with
  | .idle => takePark p (s.modSt p (fun x => { x with ret := .idle }))
  | .done => takePark p (s.modSt p (fun x => { x with ret := .done }))
  | .waiting => takePark p s
  | .held => takePark p s
  | .cutting => s.modSt p (fun x => { x with parkPending := true })
  | .dressing => s.modSt p (fun x => { x with parkPending := true })
  | .off => s
  | .spinup => s
  | .parked => s
  | .stalled => s
  | .stopped => s

/-- The PARK request (R116). -/
def parkBlock (payload : List Byte) (s : State) : State × Answer :=
  let p := namedStation payload
  refusedOr (checkNamed 1 parkAccepts payload s) (controlled p (parkStation p s)) s

/-- PARK (R116). -/
def execPark (s : State) : Result := .next (handleRequest 0x0B parkBlock s)

/-- The UNPARK request (R118). -/
def unparkBlock (payload : List Byte) (s : State) : State × Answer :=
  let p := namedStation payload
  refusedOr ((checkNamed 1 (fun st => decide (st = .parked)) payload s).or (checkSpindle payload s))
    (controlled p (enterSpinup p s)) s

/-- UNPARK (R118). -/
def execUnpark (s : State) : Result := .next (handleRequest 0x0C unparkBlock s)

/-! ## ABORT -/

/-- An accepted ABORT: LIFT and SPIN OFF, the station OFF with its work discarded, out of the participation set, the
buffer and the Setup Table told if it was a member (R119, R26, R12). -/
def abortStation (p : StationId) (s : State) : State :=
  let s1 := (issueLiftOff p s).modSt p Station.shutOff
  if p ∈ s.members then bufferAbort p (s1.setMembers (leaveSet p s1.members)) else s1

/-- The ABORT request (R119). -/
def abortBlock (payload : List Byte) (s : State) : State × Answer :=
  let p := namedStation payload
  refusedOr (checkNamed 1 (fun st => decide (st ≠ .off)) payload s) (controlled p (abortStation p s)) s

/-- ABORT (R119). -/
def execAbort (s : State) : Result := .next (handleRequest 0x0D abortBlock s)

/-! ## The dressing record -/

/-- The checks of DRESS MODE in order (R136). -/
def dressModeCheck (payload : List Byte) (s : State) : Option Answer :=
  (checkLength 4 payload).or <|
  (checkStation payload).or <|
  (checkThat (dressModeOf (byteAt payload 1)).isSome (.badField 2)).or <|
  (checkThat (inRange 64 65532 (halfAt payload 2) && decide (halfAt payload 2 % 4 = 0)) (.badField 3)).or <|
  checkThat (decide ((s.st (namedStation payload)).dress.qsum = 0)) (.refuse .partialGroup)

/-- The dress mode and the interval are written (R136). -/
def setDressMode (p : StationId) (mode : DressMode) (interval : Nat) (s : State) : State :=
  s.modSt p (fun x => { x with dress := { x.dress with mode := mode, interval := interval } })

/-- The DRESS MODE request (R136). -/
def dressModeBlock (payload : List Byte) (s : State) : State × Answer :=
  refusedOr (dressModeCheck payload s)
    (setDressMode (namedStation payload) ((dressModeOf (byteAt payload 1)).getD .full) (halfAt payload 2) s, .done []) s

/-- DRESS_MODE (R136). -/
def execDressMode (s : State) : Result := .next (handleRequest 0x0F dressModeBlock s)

/-- The states in which TOOL CHANGED is accepted (R137). -/
def toolAccepts : StationState → Bool
  | .off => true
  | .idle => true
  | .parked => true
  | .stopped => true
  | .spinup => false
  | .cutting => false
  | .dressing => false
  | .waiting => false
  | .held => false
  | .stalled => false
  | .done => false

/-- The dressing record of a new tool (R137). -/
def DressRecord.newTool (r : DressRecord) : DressRecord :=
  { r with wear := 0, ref := none, worn := false, qsum := 0, due := 0, owed := 0 }

/-- The TOOL CHANGED request (R137). -/
def toolChangedBlock (payload : List Byte) (s : State) : State × Answer :=
  refusedOr (checkNamed 1 toolAccepts payload s)
    (s.modSt (namedStation payload) (fun x => { x with dress := x.dress.newTool }), .done []) s

/-- TOOL_CHANGED (R137). -/
def execToolChanged (s : State) : Result := .next (handleRequest 0x10 toolChangedBlock s)

/-! ## Reports -/

/-- The station status record (R122, R164). -/
def stationRecord (x : Station) : List Byte :=
  [x.state.code, x.ret.code, flagByte x.holdPending, flagByte x.parkPending, byteOf x.strip,
    ((x.work.map Work.phase).getD .rough).code] ++
  halfBytes ((x.work.map Work.pass).getD 0) ++ halfBytes ((x.work.map Work.column).getD 0) ++
  [byteOf ((x.plan.map Plan.next).getD 0)] ++ halfBytes x.period ++
  [byteOf x.held, byteOf x.counts.chatter] ++ halfBytes x.counts.late ++ halfBytes x.counts.forcedTotal ++
  [byteOf x.counts.forcedRun] ++ halfBytes x.counts.skipped ++ halfBytes x.counts.clamp ++
  halfBytes x.counts.overload ++ halfBytes x.beff ++ [x.dress.mode.code] ++ halfBytes x.dress.interval ++
  halfBytes x.dress.due ++ halfBytes x.dress.owed ++ [byteOf x.dress.qsum] ++ halfBytes x.dress.wear ++
  [flagByte x.dress.worn, flagByte x.dress.ref.isSome] ++ halfBytes (x.dress.ref.getD 0) ++ noticeData x.notices

/-- The STATION STATUS request (R122). -/
def stationStatusBlock (payload : List Byte) (s : State) : State × Answer :=
  refusedOr ((checkLength 1 payload).or (checkStation payload))
    (s, .done (stationRecord (s.st (namedStation payload)))) s

/-- STATION_STATUS (R122). -/
def execStationStatus (s : State) : Result := .next (handleRequest 0x11 stationStatusBlock s)

/-- The checks of READ STOCK in order (R68). -/
def readStockCheck (payload : List Byte) (s : State) : Option Answer :=
  let x := s.st (namedStation payload)
  let col := halfAt payload 2
  let count := halfAt payload 4
  (checkLength 6 payload).or <|
  (checkStation payload).or <|
  (checkThat x.work.isSome (.refuse .wrongState)).or <|
  (checkThat (decide (byteAt payload 1 < s.rowsOf x.strip)) (.badField 2)).or <|
  (checkThat (decide (col < s.width)) (.badField 3)).or <|
  checkThat (decide (1 ≤ count) && decide (col + count ≤ s.width)) (.badField 4)

/-- The data of the READ STOCK reply (R68, R164). -/
def stockData (x : Station) (row col count : Nat) : List Byte :=
  [byteOf x.strip, byteOf row] ++ halfBytes col ++ halfBytes count ++
    (List.range count).flatMap (fun i => halfBytes (cellAt ((x.work.map Work.stock).getD []) row (col + i)))

/-- The READ STOCK request (R68). -/
def readStockBlock (payload : List Byte) (s : State) : State × Answer :=
  refusedOr (readStockCheck payload s)
    (s, .done (stockData (s.st (namedStation payload)) (byteAt payload 1) (halfAt payload 2) (halfAt payload 4))) s

/-- READ_STOCK (R68). -/
def execReadStock (s : State) : Result := .next (handleRequest 0x12 readStockBlock s)

end Sys2Proof.Machine
end

