-- ==== Sys2Proof/Machine/DressingCommands.lean ====
section
/-! DEFINITION. Dressing events: DRESSED, and the expiries of the settle and dress timers (R128 to R134). -/

namespace Sys2Proof.Machine

/-- A station takes a DRESSED: the completion of its dressing in flight if the numbers agree, else ignored (R129). -/
def takeDressed (p : StationId) (number : Nat) (length : Option Nat) (s : State) : State :=
  if (s.st p).state = .dressing then
    match (s.st p).dress.inFlight with
    | none => s
    | some f => if f.number = number then transmit (completeDressing p f length s) else s
  else s

/-- A DRESSED word is taken whole from the drive port (R167, R129). -/
def dressedWord (p : StationId) (number : Nat) (length : Option Nat) (s : State) : State :=
  takeDressed p number length (s.modSt p (fun x => { x with port := { x.port with partialWord := [] } }))

/-- DRESSED (R129, R130). -/
def execDressed (p : StationId) (number : BitVec 4) (length : Option (BitVec 16)) (s : State) : Result :=
  .next (outOfReset (dressedWord p number.toNat (length.map BitVec.toNat)) s)

/-- SETTLE_EXPIRY: the closing dressing begins (R128). -/
def execSettleExpiry (p : StationId) (s : State) : Result :=
  .next (if (s.st p).state = .spinup then atExpiry (s.st p).timers.settle (startClosing p) s else s)

/-- DRESS_TIMEOUT: LIFT, SPIN OFF, STALLED and the flag DRESS_TIMEOUT (R134). -/
def execDressTimeout (p : StationId) (s : State) : Result :=
  .next (if (s.st p).state = .dressing
    then atExpiry (s.st p).timers.dress (fun s => transmit (stallStation p flagDressTimeout s)) s else s)

end Sys2Proof.Machine
end

