-- ==== Sys2Proof/Machine/TimingCommands.lean ====
section
/-! DEFINITION. Cell timing: MARK, STEP, and the expiries of the approach, lead, blank and miss timers (R70 to R101). -/

namespace Sys2Proof.Machine

/-! ## Captures -/

/-- A raw capture as it is stored (R75). -/
def storedCapture (raw : Nat) : Nat := max 1 (min 65535 raw)

/-- The capture history with a raw capture at its head (R75). -/
def pushCapture (raw : Nat) (history : List Nat) : List Nat :=
  (storedCapture raw :: history).take Config.historyDepth

/-- Steps 1 and 2 of an accepted mark j at this tick (R74 to R76, R79). -/
def Station.capture (x : Station) (now j : Nat) : Station :=
  match x.captureRef with
  | none => x
  | some t => if j = 0 then x else { x with captures := pushCapture (now - t) x.captures }

/-! ## Entering a cell -/

/-- The lead for cell j+1 starts at the entry to cell j: the pending setpoint and the lead timer; a lead delay of 0
issues the plunge at once (R78, R83). -/
def startLead (p : StationId) (pl : Plan) (j : Nat) (s : State) : State :=
  if j + 1 < pl.rows then
    let setpoint := (pl.cell (j + 1)).setpoint
    if (s.st p).leadDelay = 0 then
      issue p (.plunge setpoint) (s.modSt p (fun x =>
        { x with timers := { x.timers with lead := none }
                 plan := x.plan.map (fun q => { q with pendingSetpoint := none }) }))
    else
      s.modSt p (fun x =>
        { x with timers := { x.timers with lead := startTimer s.tick x.leadDelay }
                 plan := x.plan.map (fun q => { q with pendingSetpoint := some setpoint }) })
  else s

/-- A setpoint still pending at the mark that enters its cell is sent late (R84). -/
def latePlunge (p : StationId) (s : State) : State :=
  match (s.st p).plan.bind Plan.pendingSetpoint with
  | none => s
  | some setpoint =>
    setFlag (.station p) flagLate
      ((issue p (.plunge setpoint) s).modSt p (fun x =>
        { x with
          timers := { x.timers with lead := none }
          plan := x.plan.map (fun q => { q with pendingSetpoint := none })
          counts := { x.counts with late := satUp x.counts.late } }))

/-- What the trigger mode calls for at the mark entering cell j (R82 to R84, R86). -/
def plungeAtMark (p : StationId) (pl : Plan) (j : Nat) (s : State) : State :=
  match (s.st p).cfg.trigger with
  | .atMark => issue p (.plunge (pl.cell j).setpoint) s
  | .lead => startLead p pl j (latePlunge p s)
  | .step => issue p (.plunge (pl.cell j).setpoint) s

/-- What the trigger mode calls for at a forced advance into cell j (R95). -/
def plungeAtForced (p : StationId) (pl : Plan) (j : Nat) (s : State) : State :=
  match (s.st p).cfg.trigger with
  | .atMark => issue p (.plunge (pl.cell j).setpoint) s
  | .lead => startLead p pl j s
  | .step => s

/-- The blank and miss timers from P as it stands; the miss timer only while a mark is awaited (R79, R94, R96). -/
def Station.restartTimers (x : Station) (now : Nat) (awaits : Bool) : Station :=
  { x with timers := { x.timers with
      blank := startTimer now x.blankWindow
      miss := if awaits then startTimer now x.missTimeout else none } }

/-! ## MARK -/

/-- Steps 4 and 5 of an accepted mark j (R79). -/
def Station.markTimers (x : Station) (now : Nat) (awaits : Bool) : Station :=
  let y := x.restartTimers now awaits
  { y with
    timers := { y.timers with approach := none }, counts := { x.counts with forcedRun := 0 }, captureRef := some now }

/-- Step 3 of an accepted mark j: for j ≥ 1 the exit of cell j−1 with the mark's load; the index becomes j+1 (R79). -/
def markExit (p : StationId) (pl : Plan) (j : Nat) (load : Option Nat) (s : State) : State × Bool :=
  if j = 0 then (s.modSt p (fun x => { x with plan := some { pl with next := 1 } }), false)
  else recordExit p pl (j - 1) load s

/-- The accepted mark j of the run in flight (R79, R88, R146). -/
def acceptMark (p : StationId) (pl : Plan) (load : Option Nat) (s : State) : State :=
  let j := pl.next
  let s1 := s.modSt p (fun x => x.capture s.tick j)
  let r := markExit p pl j load s1
  if j < pl.rows then
    if r.2 then cutShort p r.1
    else plungeAtMark p pl j (r.1.modSt p (fun x => x.markTimers s.tick true))
  else
    let s2 := r.1.modSt p (fun x => x.markTimers s.tick false)
    if r.2 then enterHeld p false (closeRun p pl s2) else endRun p pl s2

/-- A mark inside the blank window (R80). -/
def countChatter (p : StationId) (s : State) : State :=
  s.modSt p (fun x => { x with counts := { x.counts with chatter := min Config.chatterMax (x.counts.chatter + 1) } })

/-- A station takes a MARK (R70): accepted, chatter, or ignored. -/
def takeMark (p : StationId) (load : Option Nat) (s : State) : State :=
  let x := s.st p
  if x.state ≠ .cutting ∨ x.cfg.trigger = .step then s
  else if x.timers.blank.isSome then countChatter p s
  else match x.plan with
    | none => s
    | some pl => if pl.next ≤ pl.rows then transmit (acceptMark p pl load s) else s

/-- A MARK word is taken whole from the drive port; a load above 1023 discards it (R167, R70). -/
def markWord (p : StationId) (load : Nat) (valid : Bool) (s : State) : State :=
  let s1 := s.modSt p (fun x => { x with port := { x.port with partialWord := [] } })
  if load ≤ 1023 then takeMark p (if valid then some load else none) s1 else s1

/-- MARK (R70, R79). -/
def execMark (p : StationId) (load : BitVec 16) (valid : Bool) (s : State) : Result :=
  .next (outOfReset (markWord p load.toNat valid) s)

/-! ## STEP -/

/-- A STEP stands for the mark that the next-cell index names (R86). -/
def stepRun (p : StationId) (s : State) : State :=
  match (s.st p).plan with
  | none => s
  | some pl =>
    if pl.next ≤ pl.rows then
      let r := markExit p pl pl.next none s
      let s1 := r.1.modSt p (fun x => { x with counts := { x.counts with forcedRun := 0 } })
      if pl.next < pl.rows then plungeAtMark p pl pl.next s1 else endRun p pl s1
    else s

/-- The checks of STEP in order: the state, then the trigger mode (R86, R106). -/
def stepCheck (payload : List Byte) (s : State) : Option Answer :=
  (checkNamed 1 (fun st => decide (st = .cutting)) payload s).or <|
  checkThat (decide ((s.st (namedStation payload)).cfg.trigger = .step)) (.refuse .wrongState)

/-- The STEP request (R86). -/
def stepBlock (payload : List Byte) (s : State) : State × Answer :=
  let p := namedStation payload
  refusedOr (stepCheck payload s) (controlled p (stepRun p s)) s

/-- STEP (R86). -/
def execStepCell (s : State) : Result := .next (handleRequest 0x0E stepBlock s)

/-! ## Expiries -/

/-- The timers of a station are taken into account only in CUTTING (R73). -/
def inCutting (p : StationId) (effect : State → State) (s : State) : State :=
  if (s.st p).state = .cutting then effect s else s

/-- APPROACH_TIMEOUT: the station stalls (R100, R101). -/
def execApproachTimeout (p : StationId) (s : State) : Result :=
  .next (inCutting p (atExpiry (s.st p).timers.approach (fun s => transmit (stallStation p flagStalled s))) s)

/-- The lead timer has run out: PLUNGE with the pending setpoint (R83). -/
def leadExpires (p : StationId) (s : State) : State :=
  let s1 := s.modSt p (fun x =>
    { x with timers := { x.timers with lead := none }
             plan := x.plan.map (fun q => { q with pendingSetpoint := none }) })
  match (s.st p).plan.bind Plan.pendingSetpoint with
  | none => s1
  | some setpoint => issue p (.plunge setpoint) s1

/-- LEAD_TIMER_EXPIRY (R83). -/
def execLeadTimerExpiry (p : StationId) (s : State) : Result :=
  .next (inCutting p (atExpiry (s.st p).timers.lead (leadExpires p)) s)

/-- BLANK_TIMER_EXPIRY: the blank window closes (R80, R81). -/
def execBlankTimerExpiry (p : StationId) (s : State) : Result :=
  .next (inCutting p (atExpiry (s.st p).timers.blank
    (fun s => s.modSt p (fun x => { x with timers := { x.timers with blank := none } }))) s)

/-- Steps 1 to 4 of a forced advance standing for mark j, or of a forced exit (R94, R96). -/
def forceExit (p : StationId) (pl : Plan) (s : State) : State :=
  let j := pl.next
  let s1 := (recordExit p pl (j - 1) none (s.modSt p (fun x => { x with captureRef := none }))).1
  let s2 := s1.modSt p (fun x =>
    { x with counts := { x.counts with
        forcedRun := x.counts.forcedRun + 1, forcedTotal := satUp x.counts.forcedTotal } })
  (setFlag (.station p) flagMissed s2).modSt p (fun x => x.restartTimers s.tick (decide (j < pl.rows)))

/-- A forced advance into cell j, or a forced exit (R94 to R96). -/
def forceAdvance (p : StationId) (pl : Plan) (s : State) : State :=
  if pl.next < pl.rows then plungeAtForced p pl pl.next (forceExit p pl s) else endRun p pl (forceExit p pl s)

/-- A lead timer that ran out before this tick has sent its plunge (R92; notes/assumptions/6.md). -/
def earlierLead (p : StationId) (s : State) : State :=
  match (s.st p).timers.lead with
  | none => s
  | some t => if t ≤ s.tick then leadExpires p s else s

/-- The miss timer, which awaits a mark j in 1..n (R92), has run out: a forced advance, a forced exit or a stall
(R93). -/
def missExpires (p : StationId) (s : State) : State :=
  let s1 := earlierLead p s
  match (s1.st p).plan with
  | none => s1
  | some pl =>
    if pl.next = 0 ∨ pl.rows < pl.next then s1
    else if (s1.st p).counts.forcedRun < (s1.st p).cfg.forcedLimit then forceAdvance p pl s1
    else stallStation p flagStalled s1

/-- MISS_TIMEOUT (R93); the expiry of a miss timer that an accepted mark has stopped does not occur (R98). -/
def execMissTimeout (p : StationId) (s : State) : Result :=
  .next (inCutting p (atExpiry (s.st p).timers.miss (fun s => transmit (missExpires p s))) s)

end Sys2Proof.Machine
end

