-- ==== Sys2Proof/Machine/DriveCommands.lean ====
section
/-! DEFINITION. The drive ports: discarded words, gaps, and the end of a command word (R165 to R167). -/

namespace Sys2Proof.Machine

/-- A whole word of five bytes is discarded or handed to its station (R167). -/
def takeWord (p : StationId) (w : List Byte) (s : State) : State :=
  let load := halfAt w 1
  let a := w.getD 1 0
  if w.getD 4 0 ≠ crc8 (w.take 4) then s
  else if w.getD 0 0 = 0x81 then
    if load ≤ 1023 ∧ byteAt w 3 ≤ 1 then takeMark p (if byteAt w 3 = 1 then some load else none) s else s
  else if w.getD 0 0 = 0x82 then
    if a &&& 0x70 = 0 then
      takeDressed p (a &&& 0x0F).toNat (if a.getLsbD 7 then some (halfAt w 2) else none) s
    else s
  else s

/-- The receiver of a drive port takes one byte; the fifth byte ends a word (R167). -/
def receiveDriveByte (p : StationId) (s : State) (b : Byte) : State :=
  let w := (s.st p).port.partialWord ++ [b]
  let keep (l : List Byte) : State := s.modSt p (fun x => { x with port := { x.port with partialWord := l } })
  if w.length < 5 then keep w else takeWord p w (keep [])

/-- DRIVE_WORD_DISCARDED: the bytes are received back to back; a word that R167 rejects has no effect. -/
def execDriveWordDiscarded (p : StationId) (bytes : List Byte) (s : State) : Result :=
  .next (outOfReset (fun s => bytes.foldl (receiveDriveByte p) s) s)

/-- DRIVE_BYTE_GAP: the partial word is discarded (R167). -/
def execDriveByteGap (p : StationId) (s : State) : Result :=
  .next (outOfReset (fun s => s.modSt p (fun x => { x with port := { x.port with partialWord := [] } })) s)

/-- DRIVE_COMMAND_SENT: the word being sent ends and the next of the queue begins (R166). -/
def execDriveCommandSent (p : StationId) (s : State) : Result :=
  .next (outOfReset (fun s => s.modSt p (fun x => { x with port := { x.port with queue := x.port.queue.tail } })) s)

end Sys2Proof.Machine
end

