-- ==== Sys2Proof/Machine/LinkCommands.lean ====
section
/-! DEFINITION. The commands of the host link itself: frames and gaps, link errors, unknown kinds, the transmitter,
STATUS and RESET (R151, R156 to R162). -/

namespace Sys2Proof.Machine

/-- LINK_FRAME_RECEIVED: the receiver takes the bytes one after another (R156, R158). -/
def execLinkFrameReceived (bytes : List Byte) (s : State) : Result :=
  .next (outOfReset (fun s => bytes.foldl receiveByte s) s)

/-- LEN_OUT_OF_RANGE: the receiver takes the byte; a LEN outside 2..1032 sends it back to HUNTING (R156). -/
def execLenOutOfRange (hi : Byte) (s : State) : Result := .next (outOfReset (fun s => receiveByte s hi) s)

/-- INTER_BYTE_GAP: the partial frame is discarded (R156). -/
def execInterByteGap (s : State) : Result := .next (outOfReset dropPartialFrame s)

/-- LINK_FRAMING_ERROR: treated like a gap (R156). -/
def execLinkFramingError (s : State) : Result := .next (outOfReset dropPartialFrame s)

/-- LINK_ERROR: the head of the receive list is answered with kind 7Fh (R159, R162). -/
def execLinkError (s : State) : Result := .next (outOfReset answerNote s)

/-- BAD_KIND: a frame entry of an unknown kind is answered with BAD_KIND (R159). -/
def execBadKind (s : State) : Result :=
  .next (outOfReset
    (handleHead (fun k => (requestOfKind k).isNone) (fun _ s => (s, .refuse .badKind))) s)

/-- TRANSMITTER_FREE: the frame being sent, if any, has ended and the transmitter chooses (R151). -/
def execTransmitterFree (s : State) : Result := .next (outOfReset chooseFrame s)

/-- The slot fields of the STATUS reply: state, and the strip index or FFh for an EMPTY slot (R161). -/
def slotData (slot : Slot) : List Byte := [slot.state.code, (slot.strip.map byteOf).getD 0xFF]

/-- The data of the STATUS reply (R161, R164). -/
def statusData (s : State) : List Byte :=
  [s.setup.code] ++ halfBytes s.width ++ halfBytes s.height ++ [byteOf s.tickExp] ++
    slotData s.slots[(0 : Fin 2)] ++ slotData s.slots[(1 : Fin 2)] ++ halfBytes s.nextRow ++
    [flagByte s.stopLine, Config.partRevision, byteOf s.members.length] ++ s.members.map (fun p => byteOf p.val)

/-- The STATUS request (R161). -/
def statusBlock (payload : List Byte) (s : State) : State × Answer :=
  refusedOr (checkLength 0 payload) (s, .done (statusData s)) s

/-- STATUS (R161). -/
def execStatus (s : State) : Result := .next (handleRequest 0x01 statusBlock s)

/-- The RESET request: the receiver becomes DEAF, DONE is replied, and the waiting entries are answered with LINK
ERROR replies from then on (R162). -/
def resetBlock (payload : List Byte) (s : State) : State × Answer :=
  refusedOr (checkLength 0 payload) ((s.setReceiver .deaf).setResetting true, .done []) s

/-- RESET (R162). -/
def execResetRequest (s : State) : Result := .next (handleRequest 0x15 resetBlock s)

end Sys2Proof.Machine
end

