-- ==== Sys2Proof/Machine/NoticeCommands.lean ====
section
/-! DEFINITION. The requests of the Notice Unit: NOTICE MASK and NOTICE CLEAR (R152, R153). -/

namespace Sys2Proof.Machine

/-- The checks of NOTICE CLEAR and NOTICE MASK in order (R152, R153). -/
def noticeCheck (payload : List Byte) : Option Answer :=
  (checkLength 3 payload).or <|
  match sourceField payload with
  | none => some (.badField 1)
  | some src => checkThat (belongs src (flagSetAt payload 1)) (.badField 2)

/-- The source a notice request names; a request that reaches its effect names one. -/
def namedSource (payload : List Byte) : Source := (sourceField payload).getD .global

/-- The NOTICE MASK request (R153). -/
def noticeMaskBlock (payload : List Byte) (s : State) : State × Answer :=
  let src := namedSource payload
  let s1 := maskSource src (flagSetAt payload 1) s
  refusedOr (noticeCheck payload) (s1, .done (noticeData (s1.noticeSets src))) s

/-- NOTICE_MASK (R153). -/
def execNoticeMask (s : State) : Result := .next (handleRequest 0x13 noticeMaskBlock s)

/-- The NOTICE CLEAR request (R152). -/
def noticeClearBlock (payload : List Byte) (s : State) : State × Answer :=
  let src := namedSource payload
  let s1 := clearSource src (flagSetAt payload 1) s
  refusedOr (noticeCheck payload) (s1, .done (noticeData (s1.noticeSets src))) s

/-- NOTICE_CLEAR (R152). -/
def execNoticeClear (s : State) : Result := .next (handleRequest 0x14 noticeClearBlock s)

end Sys2Proof.Machine
end

