-- ==== Sys2Proof/Machine/PinCommands.lean ====
section
/-! DEFINITION. The stop line and the resets (R120, R121, R162, R168). -/

namespace Sys2Proof.Machine

/-- The states in which the stop line acts on a station (R120). -/
def StationState.working : StationState → Bool
  | .spinup => true
  | .cutting => true
  | .dressing => true
  | .waiting => true
  | .held => true
  | .off => false
  | .idle => false
  | .parked => false
  | .stalled => false
  | .stopped => false
  | .done => false

/-- The removal that every assertion makes on a port, then the effect on the station if it works (R120, R166). -/
def assertStation (p : StationId) (s : State) : State :=
  let s1 := s.modSt p (fun x => { x with port := { x.port with queue := purgeQueue x.port.queue } })
  if (s.st p).state.working then stopStation p s1 else s1

/-- The stop line is asserted (R120). -/
def assertLine (s : State) : State :=
  if s.stopLine then s
  else transmit (setFlag .global flagStopOn (forStations assertStation (s.setStopLine true)))

/-- STOP_LINE_ASSERTED (R120). -/
def execStopLineAsserted (s : State) : Result := .next (outOfReset assertLine s)

/-- The stop line is released (R121). -/
def releaseLine (s : State) : State :=
  if s.stopLine then transmit (setFlag .global flagStopOff (s.setStopLine false)) else s

/-- STOP_LINE_RELEASED (R121). -/
def execStopLineReleased (s : State) : Result := .next (outOfReset releaseLine s)

/-- RESET_PIN: the part is held in reset (R162, R168). -/
def execResetPin (s : State) : Result := .next (holdInReset s)

/-- RESET_PIN_RELEASE: a reset that the pin held completes (R168). -/
def execResetPinRelease (straps : BitVec 2) (stop : Bool) (s : State) : Result :=
  .next (if s.inReset then transmit (completeReset straps stop s) else s)

/-- RESET_COMPLETION: once every reply after a RESET request has been sent, the part resets (R162). -/
def execResetCompletion (straps : BitVec 2) (stop : Bool) (s : State) : Result :=
  .next (outOfReset (fun s => if s.repliesSent then transmit (completeReset straps stop s) else s) s)

/-- POWER_ON_RESET: the part resets whole; while RESET_N is low it stays in reset (R168). -/
def execPowerOnReset (straps : BitVec 2) (stop : Bool) (s : State) : Result :=
  .next (if s.inReset then holdInReset s else transmit (completeReset straps stop s))

end Sys2Proof.Machine
end

