-- ==== Sys2Proof/Machine/SetupCommands.lean ====
section
/-! DEFINITION. The requests of the Setup Table and the Master Strip Buffer: SETUP DEFINE, SETUP CLOSE, WINDOW SET,
WINDOW CLEAR, ROW (R7 to R9, R13, R18 to R22, R65, R66). -/

namespace Sys2Proof.Machine

/-- A station's settle or dress timer may run (R7 check 2). -/
def State.someSpinning (s : State) : Bool :=
  allStations.any (fun p => decide ((s.st p).state = .spinup) || decide ((s.st p).state = .dressing))

/-- The checks of SETUP DEFINE in order (R7). -/
def setupDefineCheck (payload : List Byte) (s : State) : Option Answer :=
  (checkLength 5 payload).or <|
  (checkThat (decide (s.setup = .none) || (decide (s.setup = .loaded) && !s.someSpinning))
    (.refuse .wrongState)).or <|
  (firstBad [(1, inRange 16 256 (halfAt payload 0)), (2, inRange 1 4096 (halfAt payload 2)),
    (3, inRange 0 7 (byteAt payload 4))]).map Answer.badField

/-- A setup is defined or replaced (R7, R8, R31). -/
def defineSetup (w h k : Nat) (s : State) : State :=
  (((s.startBuffer.setSetup .loaded).setFace (some { w := w, h := h, strips := (h + 31) / 32 }) k).setWindows
    (Vector.replicate 4 none)).setMembers []

/-- The SETUP DEFINE request (R7). -/
def setupDefineBlock (payload : List Byte) (s : State) : State × Answer :=
  refusedOr (setupDefineCheck payload s)
    (defineSetup (halfAt payload 0) (halfAt payload 2) (byteAt payload 4) s, .done []) s

/-- SETUP_DEFINE (R7, R8). -/
def execSetupDefine (s : State) : Result := .next (handleRequest 0x02 setupDefineBlock s)

/-- LIFT and SPIN OFF go out and the station is shut off (R9). -/
def closeStation (p : StationId) (s : State) : State := (issueLiftOff p s).modSt p Station.shutOff

/-- The setup is torn down (R9, R31). -/
def closeSetup (s : State) : State :=
  ((((forStations closeStation s).startBuffer.setSetup .none).setFace none 0).setWindows
    (Vector.replicate 4 none)).setMembers []

/-- The checks of SETUP CLOSE (R9, R13). -/
def setupCloseCheck (payload : List Byte) (s : State) : Option Answer :=
  (checkLength 0 payload).or (checkThat (decide (s.setup ≠ .none)) (.refuse .noSetup))

/-- The SETUP CLOSE request (R9). -/
def setupCloseBlock (payload : List Byte) (s : State) : State × Answer :=
  refusedOr (setupCloseCheck payload s) (closeSetup s, .done []) s

/-- SETUP_CLOSE (R9). -/
def execSetupClose (s : State) : Result := .next (handleRequest 0x03 setupCloseBlock s)

/-! ## Windows -/

/-- The window record a WINDOW SET payload carries (R163). -/
def windowOf (l : List Byte) : Window :=
  { baseRow := halfAt l 1, baseCol := halfAt l 3, rowExp := byteAt l 5, colExp := byteAt l 6 }

/-- The base lies at multiples of the sides (R65 check 4). -/
def Window.aligned (w : Window) : Bool :=
  decide (w.baseRow % 2 ^ w.rowExp = 0) && decide (w.baseCol % 2 ^ w.colExp = 0)

/-- The window's cells number at most three quarters of the face (R65 check 5). -/
def Window.fits (w : Window) (s : State) : Bool :=
  decide (2 ^ w.rowExp * 2 ^ w.colExp ≤ 3 * s.width * s.height / 4)

/-- The checks of WINDOW SET in order (R65). -/
def windowSetCheck (payload : List Byte) (s : State) : Option Answer :=
  (checkLength 7 payload).or <|
  (checkSetup s).or <|
  ((firstBad [(1, inRange 0 3 (byteAt payload 0)), (2, inRange 0 4095 (halfAt payload 1)),
    (3, inRange 0 255 (halfAt payload 3)), (4, inRange 0 12 (byteAt payload 5)),
    (5, inRange 0 8 (byteAt payload 6))]).map Answer.badField).or <|
  (checkThat (windowOf payload).aligned (.refuse .misaligned)).or <|
  checkThat ((windowOf payload).fits s) (.refuse .tooLarge)

/-- A window slot is written or emptied (R65, R66). -/
def State.putWindow (s : State) (i : Nat) (w : Option Window) : State :=
  s.setWindows (s.windows.setIfInBounds i w)

/-- The WINDOW SET request (R65). -/
def windowSetBlock (payload : List Byte) (s : State) : State × Answer :=
  refusedOr (windowSetCheck payload s) (s.putWindow (byteAt payload 0) (some (windowOf payload)), .done []) s

/-- WINDOW_SET (R65). -/
def execWindowSet (s : State) : Result := .next (handleRequest 0x05 windowSetBlock s)

/-- The checks of WINDOW CLEAR (R66). -/
def windowClearCheck (payload : List Byte) (s : State) : Option Answer :=
  (checkLength 1 payload).or <|
  (checkSetup s).or <|
  (firstBad [(1, inRange 0 3 (byteAt payload 0))]).map Answer.badField

/-- The WINDOW CLEAR request (R66). -/
def windowClearBlock (payload : List Byte) (s : State) : State × Answer :=
  refusedOr (windowClearCheck payload s) (s.putWindow (byteAt payload 0) none, .done []) s

/-- WINDOW_CLEAR (R66). -/
def execWindowClear (s : State) : Result := .next (handleRequest 0x06 windowClearBlock s)

/-! ## Rows -/

/-- The strip a row belongs to (R18). -/
def stripOfRow (r : Nat) : Nat := r / Config.rowsPerStrip

/-- The samples of a ROW payload as sent (R163). -/
def rowSamples (payload : List Byte) (w : Nat) : List Nat := (List.range w).map (fun c => halfAt payload (2 + 2 * c))

/-- The checks of ROW in order (R18). -/
def rowCheck (payload : List Byte) (s : State) : Option Answer :=
  let r := halfAt payload 0
  let slot := s.slots[slotOf (stripOfRow r)]
  (checkThat (decide (2 ≤ payload.length)) (.refuse .badLength)).or <|
  (checkSetup s).or <|
  (checkThat (decide (r = s.nextRow) && decide (s.nextRow < s.height))
    { status := .outOfOrder, data := halfBytes s.nextRow }).or <|
  (checkThat (decide (slot.state = .empty) || decide (slot.strip = some (stripOfRow r)))
    { status := .bufferFull, data := [byteOf (slot.strip.getD 0)] }).or <|
  checkThat (decide (payload.length = 2 + 2 * s.width)) (.refuse .badLength)

/-- The slot of strip k with one more row (R21, R22); `n` is the row count of the strip. -/
def Slot.takeRow (slot : Slot) (k n : Nat) (row : List Nat) : Slot :=
  { state := if slot.rows + 1 = n then .full else .filling, strip := some k, rows := slot.rows + 1
    samples := slot.samples ++ [row], finished := if slot.state = .empty then [] else slot.finished }

/-- A station that waits for strip k comes into CUTTING (R22, R112). -/
def wakeStation (k : Nat) (p : StationId) (s : State) : State :=
  if (s.st p).state = .waiting ∧ (s.st p).strip = k then comeIntoCutting p s else s

/-- An accepted row is stored, its samples clamped, and a slot that becomes FULL wakes the stations that wait for
its strip (R21, R22). -/
def storeRow (r : Nat) (samples : List Nat) (s : State) : State :=
  let k := stripOfRow r
  let slot := s.slots[slotOf k].takeRow k (s.rowsOf k) (samples.map (min Config.masterCeiling))
  let s1 := (s.setSlots (s.slots.set (slotOf k) slot)).setNextRow (r + 1)
  if slot.state = .full then forStations (wakeStation k) s1 else s1

/-- The samples of a row above 40000 (R21). -/
def clampedSamples (samples : List Nat) : Nat := samples.countP (fun m => decide (Config.masterCeiling < m))

/-- The ROW request (R18, R21). -/
def rowBlock (payload : List Byte) (s : State) : State × Answer :=
  let r := halfAt payload 0
  let samples := rowSamples payload s.width
  refusedOr (rowCheck payload s)
    (storeRow r samples s, .done (halfBytes (clampedSamples samples) ++ halfBytes (r + 1))) s

/-- ROW (R18 to R22). -/
def execRow (s : State) : Result := .next (handleRequest 0x07 rowBlock s)

end Sys2Proof.Machine
end

