-- ==== Sys2Proof/Machine/Dispatch.lean ====
section
/-! DEFINITION. The meaning of every command: one arm per row of spec/opcode_table.json. -/

namespace Sys2Proof.Machine

def exec (i : Instr) (s : State) : Host.Outcome State Fault Refusal :=
  match i with
  | .linkFrameReceived bytes => Sys2Proof.Machine.execLinkFrameReceived bytes s
  | .interByteGap => Sys2Proof.Machine.execInterByteGap s
  | .linkFramingError => Sys2Proof.Machine.execLinkFramingError s
  | .linkError => Sys2Proof.Machine.execLinkError s
  | .badKind => Sys2Proof.Machine.execBadKind s
  | .status => Sys2Proof.Machine.execStatus s
  | .setupDefine => Sys2Proof.Machine.execSetupDefine s
  | .setupClose => Sys2Proof.Machine.execSetupClose s
  | .stationConfig => Sys2Proof.Machine.execStationConfig s
  | .windowSet => Sys2Proof.Machine.execWindowSet s
  | .windowClear => Sys2Proof.Machine.execWindowClear s
  | .row => Sys2Proof.Machine.execRow s
  | .start => Sys2Proof.Machine.execStart s
  | .hold => Sys2Proof.Machine.execHold s
  | .resume => Sys2Proof.Machine.execResume s
  | .park => Sys2Proof.Machine.execPark s
  | .unpark => Sys2Proof.Machine.execUnpark s
  | .abort => Sys2Proof.Machine.execAbort s
  | .stepCell => Sys2Proof.Machine.execStepCell s
  | .dressMode => Sys2Proof.Machine.execDressMode s
  | .toolChanged => Sys2Proof.Machine.execToolChanged s
  | .stationStatus => Sys2Proof.Machine.execStationStatus s
  | .readStock => Sys2Proof.Machine.execReadStock s
  | .noticeMask => Sys2Proof.Machine.execNoticeMask s
  | .noticeClear => Sys2Proof.Machine.execNoticeClear s
  | .resetRequest => Sys2Proof.Machine.execResetRequest s
  | .resetCompletion straps stop => Sys2Proof.Machine.execResetCompletion straps stop s
  | .transmitterFree => Sys2Proof.Machine.execTransmitterFree s
  | .mark p load valid => Sys2Proof.Machine.execMark p load valid s
  | .dressed p number length => Sys2Proof.Machine.execDressed p number length s
  | .driveWordDiscarded p bytes => Sys2Proof.Machine.execDriveWordDiscarded p bytes s
  | .driveByteGap p => Sys2Proof.Machine.execDriveByteGap p s
  | .driveCommandSent p => Sys2Proof.Machine.execDriveCommandSent p s
  | .approachTimeout p => Sys2Proof.Machine.execApproachTimeout p s
  | .leadTimerExpiry p => Sys2Proof.Machine.execLeadTimerExpiry p s
  | .blankTimerExpiry p => Sys2Proof.Machine.execBlankTimerExpiry p s
  | .missTimeout p => Sys2Proof.Machine.execMissTimeout p s
  | .settleExpiry p => Sys2Proof.Machine.execSettleExpiry p s
  | .dressTimeout p => Sys2Proof.Machine.execDressTimeout p s
  | .stopLineAsserted => Sys2Proof.Machine.execStopLineAsserted s
  | .stopLineReleased => Sys2Proof.Machine.execStopLineReleased s
  | .resetPin => Sys2Proof.Machine.execResetPin s
  | .resetPinRelease straps stop => Sys2Proof.Machine.execResetPinRelease straps stop s
  | .powerOnReset straps stop => Sys2Proof.Machine.execPowerOnReset straps stop s
  | .lenOutOfRange hi => Sys2Proof.Machine.execLenOutOfRange hi s

end Sys2Proof.Machine
end

