-- ==== Sys2Proof/Machine/Timebase.lean ====
section
/-! DEFINITION. The tick: what happens at a tick boundary while no command waits (R14; notes/assumptions/5.md). -/

namespace Sys2Proof.Machine

/-- A timer that is due at tick t calls for its expiry. -/
def dueCmd (t : Nat) (timer : Option Nat) (c : Instr) : List Instr :=
  match timer with
  | none => []
  | some d => if d ≤ t then [c] else []

/-- The expiries of one station that are due at tick t. -/
def dueAt (t : Nat) (x : Station) (p : StationId) : List Instr :=
  dueCmd t x.timers.settle (.settleExpiry p) ++ dueCmd t x.timers.dress (.dressTimeout p) ++
  dueCmd t x.timers.blank (.blankTimerExpiry p) ++ dueCmd t x.timers.lead (.leadTimerExpiry p) ++
  dueCmd t x.timers.miss (.missTimeout p) ++ dueCmd t x.timers.approach (.approachTimeout p)

/-- One tick boundary passes, and the timers whose expiry it is send their commands (R14). -/
def tickBoundary (s : State) : State :=
  (s.setTick (s.tick + 1)).setPending (allStations.flatMap (fun p => dueAt (s.tick + 1) (s.st p) p))

end Sys2Proof.Machine
end

