-- ==== Sys2Proof/Safety.lean ====
section
/-! DEFINITION. What claims about the part are stated in: a request at the head of the receive list, and the conditions
that every step keeps. -/

namespace Sys2Proof.Machine

/-- The head of the receive list is this request and its turn has come: no reset holds the part or is being carried
out, and the reply slot is empty (R159). -/
abbrev State.handles (s : State) (f : Frame) (rest : List Entry) : Prop :=
  s.inReset = false ∧ s.resetting = false ∧ s.replySlot = none ∧ s.recvList = .frame f :: rest

/-- The state with the head entry removed and a reply in the slot: the request's kind + 80h, its tag, the status byte
and the data (R159, R163). -/
def State.answered (s : State) (f : Frame) (rest : List Entry) (status : Byte) (data : List Byte) : State :=
  (s.setList rest).setReply (some { kind := f.kind + 0x80, tag := f.tag, payload := status :: data })

/-- The payload of a request that names one station. -/
abbrev stationPayload (p : StationId) : List Byte := [byteOf p.val]

/-- Every field of a configuration record lies in its range (R107). -/
def StationConfig.InRange (c : StationConfig) : Prop :=
  (4096 ≤ c.scale ∧ c.scale ≤ 32768) ∧ (-2000 ≤ c.offset ∧ c.offset ≤ 2000) ∧
  (1 ≤ c.depthLimit ∧ c.depthLimit ≤ 40000) ∧ c.allowance ≤ 500 ∧ (1 ≤ c.bite ∧ c.bite ≤ 1000) ∧
  c.avgDepth ∈ [1, 2, 4, 8] ∧ (1 ≤ c.startPeriod ∧ c.startPeriod ≤ 65535) ∧ c.lead ≤ 127 ∧ c.blank ≤ 127 ∧
  (65 ≤ c.miss ∧ c.miss ≤ 255) ∧ c.forcedLimit ≤ 3 ∧ (1 ≤ c.approach ∧ c.approach ≤ 65535) ∧
  (1 ≤ c.settle ∧ c.settle ≤ 255) ∧ (1 ≤ c.dressTimeout ∧ c.dressTimeout ≤ 255) ∧ c.hardness ≤ 255 ∧
  (1 ≤ c.overload ∧ c.overload ≤ 1023) ∧ (1 ≤ c.spall ∧ c.spall ≤ 2046) ∧ c.allowance ≤ c.bite

/-- The trigger mode byte (R163). -/
def Trigger.code : Trigger → Byte
  | .atMark => 0
  | .lead => 1
  | .step => 2

/-- The 29 payload bytes of STATION CONFIG (R163). -/
def configPayload (p : StationId) (c : StationConfig) : List Byte :=
  [byteOf p.val] ++ halfBytes c.scale ++ halfBytes (c.offset % 65536).toNat ++ halfBytes c.depthLimit ++
  halfBytes c.allowance ++ halfBytes c.bite ++ [flagByte c.finishEnabled, c.trigger.code, byteOf c.avgDepth] ++
  halfBytes c.startPeriod ++ [byteOf c.lead, byteOf c.blank, byteOf c.miss, byteOf c.forcedLimit] ++
  halfBytes c.approach ++ [byteOf c.settle, byteOf c.dressTimeout, byteOf c.hardness] ++ halfBytes c.overload ++
  halfBytes c.spall

/-- The cell-timing timers stopped, the capture reference and the plan gone: a station out of CUTTING (R73, R89). -/
def Station.outOfRun (x : Station) : Station :=
  { x with
    timers := { x.timers with approach := none, lead := none, blank := none, miss := none }
    captureRef := none, plan := none }

/-- The station with a command at the tail of its queue (R166). -/
def Station.sends (x : Station) (c : DriveCmd) : Station :=
  { x with port := { x.port with queue := enqueueCmd c x.port.queue } }

/-! ## Conditions that every step keeps -/

/-- At most four frame entries and four notes wait, and with four notes the receiver is DEAF (R158). -/
def State.ListBounded (s : State) : Prop :=
  frameCount s.recvList ≤ 4 ∧ noteCount s.recvList ≤ 4 ∧ (noteCount s.recvList = 4 → s.receiver = .deaf)

/-- The notice queue holds each source at most once (R150). -/
def State.QueueOnce (s : State) : Prop := s.noticeQueue.Nodup

/-- A free transmitter has nothing to send: no reply waits, and no source is queued unless a RESET request is carried
out (R151, R162). -/
def State.FreeHasNothingToSend (s : State) : Prop :=
  s.inReset = false → s.sending = none → s.replySlot = none ∧ (s.resetting = false → s.noticeQueue = [])

/-- Every command queue holds at most 16 words (R166). -/
def State.PortsBounded (s : State) : Prop := ∀ p, (s.st p).port.queue.length ≤ 16

/-- Every capture history holds at most 8 values, each in 1..65535 (R75). -/
def State.HistoryBounded (s : State) : Prop :=
  ∀ p, (s.st p).captures.length ≤ 8 ∧ ∀ c ∈ (s.st p).captures, 1 ≤ c ∧ c ≤ 65535

/-- Every quarter sum lies in 0..3 (R126). -/
def State.QuartersInRange (s : State) : Prop := ∀ p, (s.st p).dress.qsum ≤ 3

/-- No consecutive forced count exceeds its station's forced-advance limit (R93). -/
def State.ForcedWithinLimit (s : State) : Prop :=
  ∀ p c, (s.st p).config = some c → (s.st p).counts.forcedRun ≤ c.forcedLimit

/-- The counts saturate: 255 for the chatter count, 65535 for the clamped cells, the skipped runs, the late plunges, the
forced advances, the overloads, the owed dressings and the pass number (R36, R57, R59, R80, R84, R97, R125, R140). -/
def Station.CountsBounded (x : Station) : Prop :=
  x.counts.clamp ≤ 65535 ∧ x.counts.skipped ≤ 65535 ∧ x.counts.chatter ≤ 255 ∧ x.counts.late ≤ 65535 ∧
  x.counts.forcedTotal ≤ 65535 ∧ x.counts.overload ≤ 65535 ∧ x.dress.owed ≤ 65535 ∧
  ∀ w, x.work = some w → w.pass ≤ 65535

/-- Every station's counts stay within their bounds. -/
def State.CountsBounded (s : State) : Prop := ∀ p, (s.st p).CountsBounded

/-- While the stop line is asserted every station is stopped or has its spindle off (R121). -/
def State.StoppedWhileAsserted (s : State) : Prop :=
  s.stopLine = true → ∀ p, (s.st p).state.working = false

/-- A wear above 300 has set the worn flag, and a worn station is not CUTTING, not WAITING, and takes no owed dressing
(R131). -/
def Station.WornRests (x : Station) : Prop :=
  (300 < x.dress.wear → x.dress.worn = true) ∧
  (x.dress.worn = true → x.state ≠ .cutting ∧ x.state ≠ .waiting ∧
    ∀ f, x.state = .dressing → x.dress.inFlight = some f → f.kind = .closing)

/-- Every station rests while worn (R131). -/
def State.WornStationsRest (s : State) : Prop := ∀ p, (s.st p).WornRests

/-- A slot that holds strip k is slot k mod 2 (R15). -/
def State.SlotsPlaced (s : State) : Prop := ∀ (i : Fin 2) (k : Nat), s.slots[i].strip = some k → k % 2 = i.val

/-- Every sample held in a slot lies in 0..40000 (R21). -/
def State.SamplesClamped (s : State) : Prop := ∀ (i : Fin 2), ∀ row ∈ s.slots[i].samples, ∀ m ∈ row, m ≤ 40000

/-- The participation set is in increasing order and has no duplicates (R11). -/
def State.MembersOnce (s : State) : Prop := s.members = allStations.filter (fun p => decide (p ∈ s.members))

/-- SPIN ON, RUN and PLUNGE: the commands that are not issued while the stop line is asserted (R121). -/
def DriveCmd.moves : DriveCmd → Bool
  | .spinOn => true
  | .run _ _ => true
  | .plunge _ => true
  | .lift => false
  | .spinOff => false
  | .dress _ _ _ => false

end Sys2Proof.Machine
end

