-- ==== Sys2Proof/WellFormed.lean ====
section
/-! DEFINITION. Which commands are of the form their table row describes. A command that is not still has a meaning
(every byte that comes is taken as R156 and R167 say); this is only what the row's name promises. -/

namespace Sys2Proof

/-- The bytes are one whole link frame: start byte, LEN in 2..1032, and LEN + 4 bytes in all (R155). -/
def wholeLinkFrame (bytes : List Byte) : Bool :=
  match bytes with
  | start :: lo :: hi :: rest =>
    let len := lo.toNat + 256 * hi.toNat
    start == 0xA5 && decide (2 ≤ len) && decide (len ≤ 1032) && rest.length == len + 1
  | _ => false

/-- The form of each row: a link frame is whole (R155), a MARK's load is in 0..1023 (R70), a drive word has five
bytes (R165). -/
def Instr.wellFormed : Instr → Bool
  | .linkFrameReceived bytes => wholeLinkFrame bytes
  | .interByteGap => true
  | .linkFramingError => true
  | .linkError => true
  | .badKind => true
  | .status => true
  | .setupDefine => true
  | .setupClose => true
  | .stationConfig => true
  | .windowSet => true
  | .windowClear => true
  | .row => true
  | .start => true
  | .hold => true
  | .resume => true
  | .park => true
  | .unpark => true
  | .abort => true
  | .stepCell => true
  | .dressMode => true
  | .toolChanged => true
  | .stationStatus => true
  | .readStock => true
  | .noticeMask => true
  | .noticeClear => true
  | .resetRequest => true
  | .resetCompletion _ _ => true
  | .transmitterFree => true
  | .mark _ load _ => decide (load.toNat ≤ 1023)
  | .dressed _ _ _ => true
  | .driveWordDiscarded _ bytes => bytes.length == 5
  | .driveByteGap _ => true
  | .driveCommandSent _ => true
  | .approachTimeout _ => true
  | .leadTimerExpiry _ => true
  | .blankTimerExpiry _ => true
  | .missTimeout _ => true
  | .settleExpiry _ => true
  | .dressTimeout _ => true
  | .stopLineAsserted => true
  | .stopLineReleased => true
  | .resetPin => true
  | .resetPinRelease _ _ => true
  | .powerOnReset _ _ => true
  | .lenOutOfRange _ => true

end Sys2Proof
end

