-- ==== Sys2Proof/Certificates/Slice0/Obligations.lean ====
section
/-! DEFINITION. The statements about the part, for the provers. Each docstring names the rules it rests on; a statement
that rests on a choice of the model says so and names the log entry. -/

open Sys2Proof Sys2Proof.Machine

/-! ## The queue of commands -/

/-- One step takes the command at the front of the queue. That all commands wait in one queue, whose order is the order
in which events are taken, is the model's choice (log entry 18). -/
def Obligations.StepTakesFrontCommand : Prop :=
  ∀ (s : State) (c : Instr) (rest : List Instr), s.pending = c :: rest →
    step s = exec c (s.setPending rest)

/-- The MODEL's choice (log entry 5): with no command waiting, one step is one tick boundary, and the commands then
waiting are exactly the expiries of the timers that are due (section 1.6). -/
def Obligations.EmptyQueueStepIsOneTick : Prop :=
  ∀ s : State, s.pending = [] →
    ∃ t, step s = .next t ∧ t = { s with tick := s.tick + 1, pending := t.pending } ∧
      (∀ p,
        (Instr.settleExpiry p ∈ t.pending ↔ ∃ d, (s.st p).timers.settle = some d ∧ d ≤ s.tick + 1) ∧
        (Instr.dressTimeout p ∈ t.pending ↔ ∃ d, (s.st p).timers.dress = some d ∧ d ≤ s.tick + 1) ∧
        (Instr.blankTimerExpiry p ∈ t.pending ↔ ∃ d, (s.st p).timers.blank = some d ∧ d ≤ s.tick + 1) ∧
        (Instr.leadTimerExpiry p ∈ t.pending ↔ ∃ d, (s.st p).timers.lead = some d ∧ d ≤ s.tick + 1) ∧
        (Instr.missTimeout p ∈ t.pending ↔ ∃ d, (s.st p).timers.miss = some d ∧ d ≤ s.tick + 1) ∧
        (Instr.approachTimeout p ∈ t.pending ↔ ∃ d, (s.st p).timers.approach = some d ∧ d ≤ s.tick + 1)) ∧
      (∀ c ∈ t.pending, ∃ p, c ∈ [Instr.settleExpiry p, .dressTimeout p, .blankTimerExpiry p, .leadTimerExpiry p,
        .missTimeout p, .approachTimeout p])

/-! ## The host link -/

/-- Every link frame, laid out and closed with its check byte as section 11.4 says, is received whole: a frame entry
with its kind, tag and payload joins the receive list, and nothing else changes. That the command gives its bytes to
the receiver one after another is the model's choice (log entry 15). -/
def Obligations.SentFrameIsReceivedWhole : Prop :=
  ∀ (s : State) (f : Frame), s.inReset = false → s.receiver = .hunting → f.payload.length ≤ 1030 →
    frameCount s.recvList < 4 → noteCount s.recvList < 4 →
    exec (.linkFrameReceived f.bytes) s = .next { s with recvList := s.recvList ++ [.frame f] }

/-- A whole frame with another check byte becomes a BAD_CHECK note, and a good one that finds four frame entries an
OVERRUN note; the fourth note makes the receiver DEAF (section 11.2). That the command gives its bytes to the receiver
one after another is the model's choice (log entry 15). -/
def Obligations.DamagedOrExtraFrameBecomesNote : Prop :=
  ∀ (s : State) (f : Frame) (check : Byte), s.inReset = false → s.receiver = .hunting → f.payload.length ≤ 1030 →
    noteCount s.recvList < 4 → (f.bytes.dropLast ++ [check] ≠ f.bytes ∨ 4 ≤ frameCount s.recvList) →
    exec (.linkFrameReceived (f.bytes.dropLast ++ [check])) s = .next
      { s with
        recvList := s.recvList ++
          [.note f.tag (if f.bytes.dropLast ++ [check] = f.bytes then .overrun else .badCheck)]
        receiver := if noteCount s.recvList = 3 then .deaf else .hunting }

/-- A gap or a framing error sends the receiver to HUNTING unless it is DEAF; the second length byte leads to BODY, or
for a LEN outside 2..1032 to HUNTING; nothing else changes (section 11.1). That the gap and the framing error give no
byte, and that LEN_OUT_OF_RANGE gives the second length byte and a LEN in range leads on, are the model's choices (log
entry 15). -/
def Obligations.GapOrBadLengthReturnsToHunting : Prop :=
  ∀ s : State, s.inReset = false →
    (s.receiver ≠ .deaf → exec .interByteGap s = .next (s.setReceiver .hunting)) ∧
    (s.receiver ≠ .deaf → exec .linkFramingError s = .next (s.setReceiver .hunting)) ∧
    (s.receiver = .deaf → exec .interByteGap s = .next s ∧ exec .linkFramingError s = .next s) ∧
    (∀ lo hi : Byte, s.receiver = .length (some lo) →
      exec (.lenOutOfRange hi) s = .next
        { s with
          receiver :=
            if 2 ≤ lo.toNat + 256 * hi.toNat ∧ lo.toNat + 256 * hi.toNat ≤ 1032
            then .body (lo.toNat + 256 * hi.toNat) [] else .hunting })

/-- The Link Interface itself answers the head: a note with kind 7Fh, its tag and its code, which lets a DEAF receiver
hunt again unless a RESET request is carried out; while one is, a frame entry with kind 7Fh and OVERRUN; and else a
frame entry of kind 00h or 16h..FFh with BAD_KIND and no data (sections 11.2, 11.3). `transmit` is the free
transmitter's choice, which the statement FreeTransmitterChooses spells out. -/
def Obligations.NotesAndUnknownKindsAnswered : Prop :=
  (∀ (s : State) (rest : List Entry), s.inReset = false → s.replySlot = none →
    (∀ tag code, s.recvList = .note tag code :: rest →
      exec .linkError s = .next
        (transmit { s with
          recvList := rest
          replySlot := some { kind := 0x7F, tag := tag, payload := [if code = .badCheck then 0x0D else 0x0E] }
          receiver := if s.receiver = .deaf ∧ s.resetting = false then .hunting else s.receiver })) ∧
    (∀ f, s.recvList = .frame f :: rest → s.resetting = true →
      exec .linkError s = .next
        (transmit
          { s with recvList := rest, replySlot := some { kind := 0x7F, tag := f.tag, payload := [0x0E] } }))) ∧
  ∀ (s : State) (f : Frame) (rest : List Entry), s.handles f rest → (f.kind.toNat = 0 ∨ 0x16 ≤ f.kind.toNat) →
    exec .badKind s = .next (transmit (s.answered f rest 0x01 []))

/-- The free transmitter sends a waiting reply first; else, unless a RESET request is carried out, a notice for the
head of the queue with the flags pending and enabled; an entry with none is dropped unsent. A transmitter that is
sending goes on; a free one makes that choice at the end of each command that places a reply or sets a flag: `transmit`
in the statements (section 10.4). That TRANSMITTER_FREE ends the frame being sent, and that the choice comes at the end
of the whole command, is the model's choice (log entry 3). -/
def Obligations.FreeTransmitterChooses : Prop :=
  ∀ s : State, s.inReset = false →
    (∀ r, s.replySlot = some r →
      exec .transmitterFree s = .next { s with replySlot := none, sending := some r.bytes }) ∧
    (∀ src rest, s.replySlot = none → s.resetting = false → s.noticeQueue = src :: rest →
      s.reportable src ≠ 0 →
      exec .transmitterFree s = .next
        { s with
          noticeQueue := rest
          sending := some
            ({ kind := 0x40, tag := 0, payload := src.number :: halfBytes (s.reportable src).toNat } : Frame).bytes }) ∧
    (∀ src rest, s.replySlot = none → s.resetting = false → s.noticeQueue = src :: rest →
      s.reportable src = 0 →
      exec .transmitterFree s = exec .transmitterFree (s.setQueue rest)) ∧
    (s.replySlot = none → (s.resetting = true ∨ s.noticeQueue = []) →
      exec .transmitterFree s = .next { s with sending := none }) ∧
    (s.sending ≠ none → transmit s = s) ∧
    (s.sending = none → exec .transmitterFree s = .next (transmit s))

/-- STATUS replies the setup, the slots, the next expected row, the stop line level, the revision byte 03h and the
participation set, and changes nothing (sections 11.3, 11.5). -/
def Obligations.StatusReportsSetupAndBuffer : Prop :=
  ∀ (s : State) (tag : Byte) (rest : List Entry), s.handles ⟨0x01, tag, []⟩ rest →
    exec .status s = .next (transmit (s.answered ⟨0x01, tag, []⟩ rest 0x00
      ([s.setup.code] ++ halfBytes s.width ++ halfBytes s.height ++ [byteOf s.tickExp] ++
        [s.slots[(0 : Fin 2)].state.code, (s.slots[(0 : Fin 2)].strip.map byteOf).getD 0xFF] ++
        [s.slots[(1 : Fin 2)].state.code, (s.slots[(1 : Fin 2)].strip.map byteOf).getD 0xFF] ++
        halfBytes s.nextRow ++ [flagByte s.stopLine, 0x03, byteOf s.members.length] ++
        s.members.map (fun p => byteOf p.val))))

/-- A request of a known kind at the head, whatever its payload and the state, is taken off the list and answered with
exactly one reply of its kind + 80h and its tag, which a free transmitter sends at once; one answered with another
status than DONE changes nothing else in the part (section 11.2, "A refused request changes nothing in the part"). -/
def Obligations.RequestGetsOneReply : Prop :=
  ∀ (s : State) (f : Frame) (rest : List Entry) (c : Instr), s.handles f rest → requestOfKind f.kind = some c →
    ∃ t status data, exec c s = .next (transmit t) ∧ t.recvList = rest ∧
      t.replySlot = some { kind := f.kind + 0x80, tag := f.tag, payload := status :: data } ∧
      (status ≠ 0x00 → t = s.answered f rest status data)

/-- RESET is answered DONE, the receiver becomes DEAF and no request is handled from then on (section 11.3). That a
request command which is not due changes nothing is the model's choice (log entry 2). -/
def Obligations.ResetRequestMakesReceiverDeaf : Prop :=
  ∀ (s : State) (tag : Byte) (rest : List Entry), s.handles ⟨0x15, tag, []⟩ rest →
    exec .resetRequest s = .next (transmit
      { s.answered ⟨0x15, tag, []⟩ rest 0x00 [] with receiver := .deaf, resetting := true }) ∧
    ∀ (u : State) (c : Instr) (k : Byte), u.resetting = true → requestOfKind k = some c → exec c u = .next u

/-- Power-on reset, the release of the reset pin and the end of a RESET request leave every block at its reset value,
LIFT and SPIN OFF in each command queue, the straps read and the stop line sampled, with STOP_ON set and its notice
begun when it is asserted; the pin itself leaves every list and queue empty (sections 11.3, 11.8). That the pin empties
every list and queue at once, while LIFT and SPIN OFF, the straps and the sampled line come with its release, and that
the tick counter goes on over a reset are the model's choices (log entries 11 and 5). The reset values follow as the
chapters give them; baud rate, stop line and tick counter of `State.reset` are the model's choice (log entries 4 and 5)
and are not stated. -/
def Obligations.ResetsLeaveResetValues : Prop :=
  (∀ (s : State) (straps : BitVec 2) (stop : Bool),
      let after : State :=
        { State.reset with
          baud := Baud.ofStraps straps, stopLine := stop, tick := s.tick, pending := s.pending
          globalNotices := { pending := if stop then 0x4 else 0, enabled := 0xF }
          sending := if stop then some (⟨0x40, 0, [7, 0x04, 0x00]⟩ : Frame).bytes else none }
      (s.inReset = false → exec (.powerOnReset straps stop) s = .next after) ∧
      (s.inReset = true → exec (.resetPinRelease straps stop) s = .next after) ∧
      (s.inReset = false → s.resetting = true → s.recvList = [] → s.replySlot = none → s.sending = none →
        exec (.resetCompletion straps stop) s = .next after) ∧
      (∃ t, exec .resetPin s = .next t ∧ t.inReset = true ∧ t.receiver = .hunting ∧ t.recvList = [] ∧
        t.replySlot = none ∧ t.sending = none ∧ t.noticeQueue = [] ∧
        ∀ p, (t.st p).port = { queue := [], partialWord := [] })) ∧
  State.reset.setup = .none ∧ State.reset.face = none ∧ State.reset.tickExp = 0 ∧ State.reset.members = [] ∧
  (∀ i : Fin 4, State.reset.windows[i] = none) ∧ (∀ i : Fin 2, State.reset.slots[i] = ⟨.empty, none, 0, [], []⟩) ∧
  State.reset.nextRow = 0 ∧ State.reset.strip0Released = false ∧ State.reset.receiver = .hunting ∧
  State.reset.recvList = [] ∧ State.reset.replySlot = none ∧ State.reset.sending = none ∧
  State.reset.noticeQueue = [] ∧
  State.reset.globalNotices = ⟨0, 0xF⟩ ∧
  ∀ p, State.reset.st p =
    { state := .off, ret := .work, holdPending := false, parkPending := false, resumeSpinup := false, strip := 0
      config := none, work := none, plan := none, captures := [], captureRef := none
      timers := ⟨none, none, none, none, none, none⟩, counts := ⟨0, 0, 0, 0, 0, 0, 0⟩, beff := 0, prevResidual := none
      dress := ⟨.full, 4000, 0, 0, 0, 0, none, false, 0, none⟩, port := ⟨[.lift, .spinOff], []⟩
      notices := ⟨0, 0x1FF⟩ }

/-! ## Setup Table and Master Strip Buffer -/

/-- An accepted SETUP DEFINE writes W, H, S = ceil(H/32) and k, empties slots and windows, and enters LOADED
(section 1.4). -/
def Obligations.SetupDefineLoadsSetup : Prop :=
  ∀ (s : State) (tag : Byte) (rest : List Entry) (w h k : Nat),
    let f : Frame := ⟨0x02, tag, halfBytes w ++ halfBytes h ++ [byteOf k]⟩
    s.handles f rest → 16 ≤ w → w ≤ 256 → 1 ≤ h → h ≤ 4096 → k ≤ 7 →
    (s.setup = .none ∨
      s.setup = .loaded ∧ ∀ p, (s.st p).state ≠ .spinup ∧ (s.st p).state ≠ .dressing) →
    exec .setupDefine s = .next
      (transmit { s.answered f rest 0x00 [] with
        setup := .loaded, face := some ⟨w, h, (h + 31) / 32⟩, tickExp := k
        slots := Vector.replicate 2 ⟨.empty, none, 0, [], []⟩, nextRow := 0, strip0Released := false
        windows := Vector.replicate 4 none, members := [] })

/-- SETUP CLOSE sends LIFT and SPIN OFF on all six ports, shuts every station off with its configuration, work, plan,
history, timers and owed count gone, and empties slots, windows and participation set (section 1.4). That a closing
dressing cut short leaves no dressing owed is the model's choice (log entry 25). That the previous residual stays is
the model's choice (log entry 20). -/
def Obligations.SetupCloseTearsDown : Prop :=
  ∀ (s : State) (tag : Byte) (rest : List Entry),
    s.handles ⟨0x03, tag, []⟩ rest → s.setup ≠ .none →
    ∃ t, exec .setupClose s = .next (transmit t) ∧
      t = { s.answered ⟨0x03, tag, []⟩ rest 0x00 [] with
        stations := t.stations, setup := .none, face := none, tickExp := 0
        slots := Vector.replicate 2 ⟨.empty, none, 0, [], []⟩, nextRow := 0, strip0Released := false
        windows := Vector.replicate 4 none, members := [] } ∧
      ∀ p, t.st p =
        { ((s.st p).sends .lift).sends .spinOff with
          state := .off, ret := .work, holdPending := false, parkPending := false, resumeSpinup := false, strip := 0
          config := none, work := none, plan := none, captures := [], captureRef := none
          timers := ⟨none, none, none, none, none, none⟩
          dress := { (s.st p).dress with inFlight := none, owed := 0 } }

/-- WINDOW SET in LOADED or ACTIVE, with every field in range, the base aligned and the size within three quarters of
the face, writes the named slot; WINDOW CLEAR empties it; nothing else changes (section 4.4). -/
def Obligations.WindowWrittenOrEmptied : Prop :=
  ∀ (s : State) (tag : Byte) (rest : List Entry) (n : Fin 4), (s.setup = .loaded ∨ s.setup = .active) →
    (∀ w : Window,
      let f : Frame := ⟨0x05, tag, [byteOf n.val] ++ halfBytes w.baseRow ++ halfBytes w.baseCol ++
        [byteOf w.rowExp, byteOf w.colExp]⟩
      s.handles f rest → w.baseRow ≤ 4095 → w.baseCol ≤ 255 → w.rowExp ≤ 12 → w.colExp ≤ 8 →
      2 ^ w.rowExp ∣ w.baseRow → 2 ^ w.colExp ∣ w.baseCol →
      2 ^ w.rowExp * 2 ^ w.colExp ≤ 3 * s.width * s.height / 4 →
      exec .windowSet s = .next (transmit { s.answered f rest 0x00 [] with windows := s.windows.set n (some w) })) ∧
    (s.handles ⟨0x06, tag, [byteOf n.val]⟩ rest →
      exec .windowClear s = .next
        (transmit { s.answered ⟨0x06, tag, [byteOf n.val]⟩ rest 0x00 [] with windows := s.windows.set n none }))

/-- A window whose base is aligned protects exactly the cells of its rectangle, and a cell is guarded when a non-empty
slot of the table protects it (section 4.4). -/
def Obligations.AlignedWindowProtectsItsCells : Prop :=
  (∀ (w : Window) (row col : Nat), 2 ^ w.rowExp ∣ w.baseRow → 2 ^ w.colExp ∣ w.baseCol →
    (w.protects row col = true ↔
      w.baseRow ≤ row ∧ row < w.baseRow + 2 ^ w.rowExp ∧ w.baseCol ≤ col ∧ col < w.baseCol + 2 ^ w.colExp)) ∧
  (∀ (s : State) (row col : Nat),
    s.guarded row col = true ↔ ∃ (n : Fin 4) (w : Window), s.windows[n] = some w ∧ w.protects row col = true)

/-- An accepted ROW stores its samples, clamped to 40000, as the next row of its strip's slot, makes the slot FILLING,
or FULL with its last row, and replies the clamped count and the new next expected row. At the row that makes the slot
FULL the stations that wait for the strip come into CUTTING, and take their owed dressings or plan (section 2.2); that
they do so in increasing number is the model's choice (log entry 10). -/
def Obligations.RowStoredInItsSlot : Prop :=
  ∀ (s : State) (tag : Byte) (rest : List Entry) (samples : List Nat),
    let k := s.nextRow / 32
    let slot := s.slots[slotOf k]
    let f : Frame := ⟨0x07, tag, halfBytes s.nextRow ++ samples.flatMap halfBytes⟩
    let stored : State :=
      { s.setList rest with
        nextRow := s.nextRow + 1
        slots := s.slots.set (slotOf k)
          { state := if slot.rows + 1 = s.rowsOf k then .full else .filling, strip := some k, rows := slot.rows + 1
            samples := slot.samples ++ [samples.map (min 40000)]
            finished := if slot.state = .empty then [] else slot.finished } }
    let come (u : State) (p : StationId) : State :=
      if (u.st p).state = .waiting ∧ (u.st p).strip = k
      then owedThenOn p .intoCutting (u.modSt p (fun x => { x with state := .cutting })) else u
    let data := halfBytes (samples.countP (fun m => decide (40000 < m))) ++ halfBytes (s.nextRow + 1)
    s.handles f rest → (s.setup = .loaded ∨ s.setup = .active) → s.nextRow < s.height → s.nextRow < 65536 →
    samples.length = s.width → (∀ m ∈ samples, m < 65536) →
    (slot.state = .empty ∨ slot.strip = some k) →
    exec .row s = .next (transmit
      ((if slot.rows + 1 = s.rowsOf k then [0, 1, 2, 3, 4, 5].foldl come stored else stored).setReply
        (some ⟨0x87, tag, 0x00 :: data⟩)))

/-- In LOADED or ACTIVE a ROW whose index is not the next expected row, or any ROW once H rows have come, is refused
with OUT_OF_ORDER and the next expected row; a row in order whose slot holds another strip is refused with BUFFER_FULL
and that strip's index (section 2.2). -/
def Obligations.RowRefusedOutOfOrderOrFull : Prop :=
  ∀ (s : State) (f : Frame) (rest : List Entry), f.kind = 0x07 → s.handles f rest → 2 ≤ f.payload.length →
    (s.setup = .loaded ∨ s.setup = .active) →
    ((halfAt f.payload 0 ≠ s.nextRow ∨ s.height ≤ s.nextRow) →
      exec .row s = .next (transmit (s.answered f rest 0x06 (halfBytes s.nextRow)))) ∧
    (∀ other, halfAt f.payload 0 = s.nextRow → s.nextRow < s.height →
      s.slots[slotOf (s.nextRow / 32)].state ≠ .empty → s.slots[slotOf (s.nextRow / 32)].strip = some other →
      other ≠ s.nextRow / 32 →
      exec .row s = .next (transmit (s.answered f rest 0x07 [byteOf other])))

/-- The strip-done event adds the station to the finished set of the strip's slot; the slot is released, and SLOT_FREE
set, exactly when the setup is ACTIVE, the slot FULL, and every member of a participation set that is not empty has
finished it (section 2.4). -/
def Obligations.SlotReleasedWhenAllHaveFinished : Prop :=
  ∀ (s : State) (p : StationId) (k : Nat),
    let i := slotOf k
    let slot := s.slots[i]
    (∀ q, q ∈ joinSet p slot.finished ↔ q = p ∨ q ∈ slot.finished) ∧
    ((s.setup = .active ∧ slot.state = .full ∧ s.members ≠ [] ∧ ∀ q ∈ s.members, q = p ∨ q ∈ slot.finished) →
      stripDoneEvent p k s = setFlag .global 0x1
        { s with
          slots := s.slots.set i ⟨.empty, none, 0, [], []⟩
          strip0Released := s.strip0Released || decide (slot.strip = some 0) }) ∧
    (¬ (s.setup = .active ∧ slot.state = .full ∧ s.members ≠ [] ∧ ∀ q ∈ s.members, q = p ∨ q ∈ slot.finished) →
      stripDoneEvent p k s =
        { s with slots := s.slots.set i { slot with finished := joinSet p slot.finished } })

/-! ## Station requests -/

/-- STATION CONFIG with every field in range writes the whole record of an OFF or IDLE station, which becomes IDLE with
its consecutive forced count 0; nothing else changes (section 7.2). -/
def Obligations.StationConfigured : Prop :=
  ∀ (s : State) (tag : Byte) (rest : List Entry) (p : StationId) (c : StationConfig),
    let f : Frame := ⟨0x04, tag, configPayload p c⟩
    s.handles f rest → (s.setup = .loaded ∨ s.setup = .active) →
    ((s.st p).state = .off ∨ (s.st p).state = .idle) → c.InRange →
    exec .stationConfig s = .next (transmit ((s.modSt p (fun x =>
      { x with config := some c, state := .idle, counts := { x.counts with forcedRun := 0 } })).answered
        f rest 0x00 []))

/-- START, with every named station IDLE, the stop line released and strip 0 not released, makes the named stations
members and spins them up with their counts 0, Beff at B and the settle timer started, and makes the setup ACTIVE
(section 7.3). That the previous residual stays is the model's choice (log entry 20). -/
def Obligations.StartSpinsUpNamedStations : Prop :=
  ∀ (s : State) (tag set : Byte) (rest : List Entry),
    s.handles ⟨0x08, tag, [set]⟩ rest → (s.setup = .loaded ∨ s.setup = .active) → 1 ≤ set.toNat → set.toNat ≤ 63 →
    (∀ p : StationId, set.getLsbD p.val = true → (s.st p).state = .idle) → s.stopLine = false →
    s.strip0Released = false →
    ∃ t, exec .start s = .next (transmit t) ∧
      t = { s.answered ⟨0x08, tag, [set]⟩ rest 0x00 [] with
        setup := .active, members := t.members, stations := t.stations } ∧
      (∀ p : StationId, p ∈ t.members ↔ set.getLsbD p.val = true ∨ p ∈ s.members) ∧
      ∀ p : StationId, t.st p =
        if set.getLsbD p.val then
          { (s.st p).sends .spinOn with
            state := .spinup, strip := 0, ret := .work, holdPending := false, parkPending := false
            resumeSpinup := false, beff := (s.st p).cfg.bite, counts := ⟨0, 0, 0, 0, 0, 0, 0⟩, captures := []
            captureRef := none
            timers := { (s.st p).timers with settle := startTimer s.tick ((s.st p).cfg.settle * 1024) } }
        else s.st p

/-- HOLD by the station's state: LIFT and HELD from CUTTING, HELD from WAITING and SPINUP (from SPINUP with the settle
timer stopped and resume to spin-up yes), pending in DRESSING, no change in HELD; with a park pending the station that
would be HELD passes at once to PARKED with SPIN OFF (section 7.5). That the station parked from SPINUP keeps resume to
spin-up is the model's choice (log entry 22). That the previous residual stays is the model's choice (log entry 20). -/
def Obligations.HoldTakenByState : Prop :=
  ∀ (s : State) (tag : Byte) (rest : List Entry) (p : StationId),
    let f : Frame := ⟨0x09, tag, stationPayload p⟩
    let x := s.st p
    let settled : Station := { x with timers := { x.timers with settle := none } }
    s.handles f rest →
    (∀ (y : Station) (toSpinup : Bool),
      (x.state = .cutting ∧ y = x.sends .lift ∧ toSpinup = false ∨
        x.state = .waiting ∧ y = x ∧ toSpinup = false ∨ x.state = .spinup ∧ y = settled ∧ toSpinup = true) →
      (x.parkPending = false →
        exec .hold s = .next (transmit ((s.modSt p (fun _ =>
          { y.outOfRun with state := .held, holdPending := false, resumeSpinup := toSpinup })).answered
            f rest 0x00 [6, 0, 0]))) ∧
      (x.parkPending = true →
        exec .hold s = .next (transmit ((s.modSt p (fun _ =>
          { (y.sends .spinOff).outOfRun with
            state := .parked, holdPending := false, parkPending := false, resumeSpinup := toSpinup })).answered
              f rest 0x00 [7, 0, 0])))) ∧
    (x.state = .dressing →
      exec .hold s = .next (transmit ((s.modSt p (fun y => { y with holdPending := true })).answered
        f rest 0x00 [4, 1, flagByte x.parkPending]))) ∧
    (x.state = .held →
      exec .hold s = .next (transmit (s.answered f rest 0x00 [6, flagByte x.holdPending, flagByte x.parkPending])))

/-- With the stop line released and the worn flag clear, RESUME of a STALLED or STOPPED station, or of a hold taken in
SPINUP, and UNPARK of a PARKED one send SPIN ON, clear the capture history and start the settle timer in SPINUP; with
the line asserted both are refused with STOP_ACTIVE, and else with the worn flag set with WORN (sections 7.3, 7.5,
7.6). -/
def Obligations.ResumeAndUnparkSpinUp : Prop :=
  ∀ (s : State) (tag : Byte) (rest : List Entry) (p : StationId) (c : Instr) (kind : Byte),
    let f : Frame := ⟨kind, tag, stationPayload p⟩
    s.handles f rest →
    (c = .resume ∧ kind = 0x0A ∧ ((s.st p).state = .stalled ∨ (s.st p).state = .stopped ∨
        (s.st p).state = .held ∧ (s.st p).resumeSpinup = true) ∨
      c = .unpark ∧ kind = 0x0C ∧ (s.st p).state = .parked) →
    (s.stopLine = true → exec c s = .next (transmit (s.answered f rest 0x09 []))) ∧
    (s.stopLine = false → (s.st p).dress.worn = true → exec c s = .next (transmit (s.answered f rest 0x0C []))) ∧
    (s.stopLine = false → (s.st p).dress.worn = false →
      exec c s = .next (transmit ((s.modSt p (fun x =>
        { x.sends .spinOn with
          state := .spinup, captures := [], captureRef := none, resumeSpinup := false
          timers := { x.timers with settle := startTimer s.tick (x.cfg.settle * 1024) } })).answered f rest 0x00
            [2, flagByte (s.st p).holdPending, flagByte (s.st p).parkPending])))

/-- RESUME of a HELD station brings it into CUTTING, where it takes an owed dressing or goes on. Going on from its
position it takes up a FULL strip, with a zero stock map, ROUGH, pass 1 and column 0, or waits for it; starts the run
of its column, counting the clamped cells; skips a run without a cut cell; and after the last column tells the Load
Monitor, which restores Beff after a ROUGH pass without overload, and begins a new pass in the same phase if cells
remain, or the FINISH phase, or takes an owed dressing, or finishes the strip, and after the last strip is DONE; the
setup is then ENDED if every member is DONE (sections 7.5, 7.4, 4.1 to 4.3, 5.7, 8.3, 9.4, 1.5). That one event goes on
by no more than 8 (W + 2) of these steps, and the order of the effects of entering DONE, are the model's choices (log
entries 12 and 19). So are the fields that say whether the pass end has been told and which point called for a dressing
(log entry 17). -/
def Obligations.HeldStationPlansItsColumn : Prop :=
  ∀ (s : State) (p : StationId),
    let x := s.st p
    let dress (u : State) (point : CallPoint) : State := u.modSt p (fun y =>
      let r := y.dress
      let quarters := match r.mode with
        | .full => 4
        | .half => 2
        | .quarter => 1
      let gauge := (r.qsum + quarters) % 4 == 0
      let number := (r.number + 1) % 16
      { y.sends (.dress quarters gauge number) with
        state := .dressing, plan := none, captureRef := none
        timers := ⟨none, none, none, none, none, startTimer u.tick (y.cfg.dressTimeout * 4096)⟩
        dress := { r with number := number, inFlight := some ⟨quarters, gauge, number, .owed point⟩ } })
    (∀ (tag : Byte) (rest : List Entry),
      let t := owedThenOn p .intoCutting ((s.setList rest).modSt p (fun y => { y with state := .cutting }))
      s.handles ⟨0x0A, tag, stationPayload p⟩ rest → x.state = .held → x.resumeSpinup = false → s.stopLine = false →
      x.dress.worn = false →
      exec .resume s = .next (transmit (t.setReply (some ⟨0x8A, tag,
        [0x00, (t.st p).state.code, flagByte (t.st p).holdPending, flagByte (t.st p).parkPending]⟩)))) ∧
    (∀ point : CallPoint,
      (x.dress.owed ≠ 0 → owedThenOn p point s = dress s point) ∧
      (x.dress.owed = 0 → owedThenOn p point s = carryOn (8 * (s.width + 2)) p s)) ∧
    (∀ n : Nat, x.state = .cutting →
      (x.work = none → s.slots[slotOf x.strip].state = .full → s.slots[slotOf x.strip].strip = some x.strip →
        carryOn (n + 1) p s = carryOn n p (s.modSt p (fun y =>
          { y with
            plan := none
            work := some
              { stock := List.replicate (s.rowsOf x.strip) (List.replicate s.width 0), phase := .rough, pass := 1
                column := 0, remaining := 0, overloaded := false, told := false } }))) ∧
      (x.work = none → (s.slots[slotOf x.strip].state ≠ .full ∨ s.slots[slotOf x.strip].strip ≠ some x.strip) →
        carryOn (n + 1) p s = s.modSt p (fun y => { y.outOfRun with state := .waiting })) ∧
      (∀ w : Work, x.work = some w → w.column < s.width →
        let pl := buildPlan s x w
        let clamp := min 65535 (x.counts.clamp + clampedCells s x w)
        (pl.runCut = 0 →
          carryOn (n + 1) p s = carryOn n p (s.modSt p (fun y =>
            { y with
              plan := none
              counts := { y.counts with clamp := clamp, skipped := min 65535 (y.counts.skipped + 1) }
              work := some { w with remaining := w.remaining + pl.shortCount, column := w.column + 1 } }))) ∧
        (pl.runCut ≠ 0 →
          carryOn (n + 1) p s = s.modSt p (fun y =>
            let z := y.sends (.run w.column pl.rows)
            { (if y.cfg.trigger = .lead then z.sends (.plunge (pl.cell 0).setpoint) else z) with
              plan := some pl, captureRef := none, prevResidual := none, counts := { y.counts with clamp := clamp }
              timers := { y.timers with
                miss := none, lead := none
                approach := if y.cfg.trigger = .step then none else startTimer s.tick (y.cfg.approach * 16) } }))) ∧
      (∀ w : Work, x.work = some w → s.width ≤ w.column →
        let beff :=
          if w.told = false ∧ w.phase = .rough ∧ w.overloaded = false then min x.cfg.bite (2 * x.beff) else x.beff
        let newPass (phase : Phase) : State := s.modSt p (fun y =>
          { y with
            beff := beff
            work := some
              { stock := w.stock, phase := phase, pass := min 65535 (w.pass + 1), column := 0, remaining := 0
                overloaded := false, told := false } })
        let done : State := (setFlag (.station p) 0x001 (stripDoneEvent p x.strip (s.modSt p (fun y =>
          { y with beff := beff, work := none, plan := none })))).modSt p (fun y => { y with strip := x.strip + 1 })
        let last : State := setFlag (.station p) 0x002 (done.modSt p (fun y =>
          { (y.sends .spinOff).outOfRun with state := .done }))
        (w.remaining ≠ 0 → carryOn (n + 1) p s = carryOn n p (newPass w.phase)) ∧
        (w.remaining = 0 → w.phase = .rough → x.cfg.finishEnabled = true →
          carryOn (n + 1) p s = carryOn n p (newPass .finish)) ∧
        (w.remaining = 0 → (w.phase = .finish ∨ x.cfg.finishEnabled = false) →
          (x.dress.owed ≠ 0 →
            carryOn (n + 1) p s = dress (s.modSt p (fun y =>
              { y with beff := beff, work := some { w with told := true } })) .stripDone) ∧
          (x.dress.owed = 0 → x.strip + 1 < s.strips → carryOn (n + 1) p s = carryOn n p done) ∧
          (x.dress.owed = 0 → s.strips ≤ x.strip + 1 →
            carryOn (n + 1) p s =
              if last.setup = .active ∧ last.members ≠ [] ∧ ∀ q ∈ last.members, (last.st q).state = .done
              then setFlag .global 0x2 (last.setSetup .ended) else last))))

/-- PARK by the station's state: at once with SPIN OFF in IDLE, DONE, WAITING and HELD, the return state IDLE or DONE
in the first two; pending in CUTTING and DRESSING (section 7.6). That a station parked from a hold taken in SPINUP keeps
resume to spin-up is the model's choice (log entry 22). -/
def Obligations.ParkTakenByState : Prop :=
  ∀ (s : State) (tag : Byte) (rest : List Entry) (p : StationId),
    let f : Frame := ⟨0x0B, tag, stationPayload p⟩
    s.handles f rest →
    (∀ r : ReturnState,
      ((s.st p).state = .idle ∧ r = .idle ∨ (s.st p).state = .done ∧ r = .done ∨
        ((s.st p).state = .waiting ∨ (s.st p).state = .held) ∧ r = (s.st p).ret) →
      exec .park s = .next (transmit ((s.modSt p (fun x =>
        { (x.sends .spinOff).outOfRun with
          state := .parked, ret := r, parkPending := false, holdPending := false })).answered f rest 0x00 [7, 0, 0]))) ∧
    ((s.st p).state = .cutting →
      exec .park s = .next (transmit ((s.modSt p (fun x => { x with parkPending := true })).answered f rest 0x00
        [3, flagByte (s.st p).holdPending, 1]))) ∧
    ((s.st p).state = .dressing →
      exec .park s = .next (transmit ((s.modSt p (fun x => { x with parkPending := true })).answered f rest 0x00
        [4, flagByte (s.st p).holdPending, 1])))

/-- ABORT sends LIFT and SPIN OFF and shuts the station off, keeping its counts, Beff and the rest of its dressing
record. A station that is no member leaves the rest as it was; the last member leaves the set empty and both slots
EMPTY, and an ACTIVE setup ENDED with SETUP_ENDED set. While members remain, the station leaves both finished sets; in
an ACTIVE setup each FULL slot that all of them have finished is released, with SLOT_FREE set, and the setup is ENDED
if all of them are DONE (sections 7.7, 1.5, 2.5). That a closing dressing cut short leaves no dressing owed, and that
the last member's ABORT in ENDED empties the slots and sets no flag, are the model's choices (log entries 25 and 21).
That the previous residual stays is the model's choice (log entry 20). -/
def Obligations.AbortShutsStationOff : Prop :=
  ∀ (s : State) (tag : Byte) (rest : List Entry) (p : StationId),
    let f : Frame := ⟨0x0D, tag, stationPayload p⟩
    let off := s.modSt p (fun x =>
      { (x.sends .lift).sends .spinOff with
        state := .off, ret := .work, holdPending := false, parkPending := false, resumeSpinup := false, strip := 0
        config := none, work := none, plan := none, captures := [], captureRef := none
        timers := ⟨none, none, none, none, none, none⟩, dress := { x.dress with inFlight := none, owed := 0 } })
    let left := s.members.filter (fun q => decide (q ≠ p))
    let frees (i : Fin 2) : Bool :=
      decide (s.setup = .active ∧ s.slots[i].state = .full ∧ ∀ q ∈ left, q ∈ s.slots[i].finished)
    let slot (i : Fin 2) : Slot :=
      if frees i then ⟨.empty, none, 0, [], []⟩
      else { s.slots[i] with finished := s.slots[i].finished.filter (fun q => decide (q ≠ p)) }
    let told : State :=
      { off with
        members := left, slots := (s.slots.set 0 (slot 0)).set 1 (slot 1)
        strip0Released := s.strip0Released || frees 0 && decide (s.slots[(0 : Fin 2)].strip = some 0) ||
          frees 1 && decide (s.slots[(1 : Fin 2)].strip = some 0) }
    let freed : State := if frees 0 || frees 1 then setFlag .global 0x1 told else told
    s.handles f rest → (s.st p).state ≠ .off →
    (p ∉ s.members → exec .abort s = .next (transmit (off.answered f rest 0x00 [0, 0, 0]))) ∧
    (p ∈ s.members → left = [] →
      let empty : State := { off with members := [], slots := Vector.replicate 2 ⟨.empty, none, 0, [], []⟩ }
      exec .abort s = .next (transmit
        ((if s.setup = .active then setFlag .global 0x2 (empty.setSetup .ended) else empty).answered
          f rest 0x00 [0, 0, 0]))) ∧
    (p ∈ s.members → left ≠ [] →
      exec .abort s = .next (transmit
        ((if s.setup = .active ∧ ∀ q ∈ left, (s.st q).state = .done then setFlag .global 0x2 (freed.setSetup .ended)
          else freed).answered f rest 0x00 [0, 0, 0])))

/-- The assertion of the stop line sets STOP_ON and stops every station in SPINUP, CUTTING, DRESSING, WAITING or HELD
with LIFT and SPIN OFF after the unsent other words are removed; its release sets STOP_OFF and moves no station
(section 7.8). That the head of a command queue is the word being sent, which stays, and that the words are removed on
the ports of the other stations too, are the model's choices (log entries 7 and 9). That the previous residual stays is
the model's choice (log entry 20). -/
def Obligations.StopLineStopsWorkingStations : Prop :=
  ∀ s : State, s.inReset = false →
    (s.stopLine = false →
      ∃ u, exec .stopLineAsserted s = .next (transmit (setFlag .global 0x4 u)) ∧
        u = { s with stopLine := true, stations := u.stations } ∧
        ∀ p, u.st p =
          let left := match (s.st p).port.queue with
            | [] => []
            | sent :: unsent => sent :: unsent.filter (fun d => decide (d = .lift ∨ d = .spinOff))
          let x := { s.st p with port := { (s.st p).port with queue := left } }
          if (s.st p).state ∈ [StationState.spinup, .cutting, .dressing, .waiting, .held] then
            { (x.sends .lift).sends .spinOff with
              state := .stopped, holdPending := false, parkPending := false, resumeSpinup := false, plan := none
              captureRef := none, timers := ⟨none, none, none, none, none, none⟩
              dress := { x.dress with inFlight := none } }
          else x) ∧
    (s.stopLine = true → exec .stopLineReleased s = .next (transmit (setFlag .global 0x8 (s.setStopLine false))))

/-- STATION STATUS replies the 46 bytes of the station status record, field by field at the offsets of section 11.5,
and changes nothing (section 7.9). -/
def Obligations.StationStatusRecordLayout : Prop :=
  ∀ (s : State) (tag : Byte) (rest : List Entry) (p : StationId),
    let x := s.st p
    s.handles ⟨0x11, tag, stationPayload p⟩ rest →
    ∃ d : List Byte, exec .stationStatus s = .next (transmit (s.answered ⟨0x11, tag, stationPayload p⟩ rest 0x00 d)) ∧
      d.length = 46 ∧
      d.take 5 = [x.state.code, x.ret.code, flagByte x.holdPending, flagByte x.parkPending, byteOf x.strip] ∧
      (∀ w, x.work = some w → (d.drop 5).take 5 = w.phase.code :: (halfBytes w.pass ++ halfBytes w.column)) ∧
      (x.work = none → (d.drop 5).take 5 = [0, 0, 0, 0, 0]) ∧
      (∀ pl, x.plan = some pl → (d.drop 10).take 1 = [byteOf pl.next]) ∧
      (x.plan = none → (d.drop 10).take 1 = [0]) ∧
      (d.drop 11).take 3 = halfBytes x.period ++ [byteOf x.held] ∧
      (d.drop 14).take 6 = byteOf x.counts.chatter :: (halfBytes x.counts.late ++ halfBytes x.counts.forcedTotal ++
        [byteOf x.counts.forcedRun]) ∧
      (d.drop 20).take 8 = halfBytes x.counts.skipped ++ halfBytes x.counts.clamp ++ halfBytes x.counts.overload ++
        halfBytes x.beff ∧
      (d.drop 28).take 7 = x.dress.mode.code ::
        (halfBytes x.dress.interval ++ halfBytes x.dress.due ++ halfBytes x.dress.owed) ∧
      (d.drop 35).take 4 = byteOf x.dress.qsum :: (halfBytes x.dress.wear ++ [flagByte x.dress.worn]) ∧
      (∀ ref, x.dress.ref = some ref → (d.drop 39).take 3 = 1 :: halfBytes ref) ∧
      (x.dress.ref = none → (d.drop 39).take 3 = [0, 0, 0]) ∧
      d.drop 42 = halfBytes x.notices.pending.toNat ++ halfBytes x.notices.enabled.toNat

/-- READ STOCK of a station with a current strip, with row, first column and count inside the map, replies strip, row,
first column, count and the stock depths in column order, and changes nothing (section 4.5). -/
def Obligations.ReadStockReportsDepths : Prop :=
  ∀ (s : State) (tag : Byte) (rest : List Entry) (p : StationId) (w : Work) (row col count : Nat),
    let f : Frame := ⟨0x12, tag, [byteOf p.val, byteOf row] ++ halfBytes col ++ halfBytes count⟩
    s.handles f rest → (s.st p).work = some w → row < s.rowsOf (s.st p).strip → row < 32 → s.width ≤ 256 →
    1 ≤ count → col + count ≤ s.width →
    exec .readStock s = .next (transmit (s.answered f rest 0x00
      ([byteOf (s.st p).strip, byteOf row] ++ halfBytes col ++ halfBytes count ++
        (List.range count).flatMap (fun i => halfBytes ((w.stock.getD row []).getD (col + i) 0)))))

/-! ## Depth computation -/

/-- The scaled target is m × S / 16384 rounded to the nearest whole depth step, an exact half rounded up; nothing
overflows 32 bits; it lies in 0..80000, is 0 below one half, is m at full size and may pass the master ceiling; no
sample that reaches it, out of slots whose samples were clamped at intake, is above 40000. -/
def Obligations.ScaledTargetRoundsHalfUp : Prop :=
  (∀ m scale : Nat, scaledTarget m scale = (m * scale + 8192) / 16384) ∧
  (∀ m scale : Nat, m ≤ 40000 → scale ≤ 32768 →
    m * scale ≤ 1310720000 ∧ m * scale + 8192 ≤ 1310728192 ∧ m * scale + 8192 < 2 ^ 32 ∧
    scaledTarget m scale ≤ 80000 ∧
    2 * (m * scale) < 16384 * (2 * scaledTarget m scale + 1) ∧
    16384 * (2 * scaledTarget m scale) ≤ 2 * (m * scale) + 16384 ∧
    (2 * (m * scale) < 16384 → scaledTarget m scale = 0)) ∧
  (∀ m : Nat, scaledTarget m 16384 = m) ∧ scaledTarget 40000 32768 = 80000 ∧
  ∀ s : State, s.SamplesClamped → ∀ k j col, s.sample k j col ≤ 40000

/-- The target is t0 + o bounded to 0..Dmax; the upper clamp acts exactly where the sum is above Dmax; a cell of
target 0 is never cut (section 3.3). -/
def Obligations.TargetStaysWithinLimit : Prop :=
  ∀ (c : StationConfig) (m : Nat),
    let sum : Int := (scaledTarget m c.scale : Int) + c.offset
    target c m ≤ c.depthLimit ∧
    (sum < 0 → target c m = 0) ∧ ((c.depthLimit : Int) < sum → 0 ≤ sum → target c m = c.depthLimit) ∧
    (0 ≤ sum → sum ≤ c.depthLimit → (target c m : Int) = sum) ∧
    (clampedAbove c m = true ↔ (c.depthLimit : Int) < sum) ∧
    (∀ guarded phase beff d, target c m = 0 → isCut guarded (phaseTarget c phase (target c m)) beff d = false)

/-- The phase target: t less the allowance in ROUGH, 0 where t is the allowance or less, and t in FINISH; it lies in
0..t; a cell whose target is the allowance or less is not cut in ROUGH; every entry of a plan is planned in the phase
of its position (section 3.4). -/
def Obligations.PhaseTargetByPhase : Prop :=
  ∀ (c : StationConfig) (t : Nat),
    (c.allowance < t → phaseTarget c .rough t = t - c.allowance) ∧
    (t ≤ c.allowance → phaseTarget c .rough t = 0) ∧ phaseTarget c .finish t = t ∧
    (∀ phase, phaseTarget c phase t ≤ t) ∧
    (∀ guarded beff d, t ≤ c.allowance → isCut guarded (phaseTarget c .rough t) beff d = false) ∧
    (∀ (s : State) (x : Station) (w : Work), (buildPlan s x w).phase = w.phase ∧
      ∀ j, j < s.rowsOf x.strip → (buildPlan s x w).cells[j]? = some (planEntry s x w j))

/-- A cut cell is deepened by at least 1 and at most Beff, and never past its phase target; any other cell keeps its
depth; the setpoint is the planned depth plus the wear (sections 3.6, 3.7). -/
def Obligations.PlannedDepthWithinBite : Prop :=
  ∀ (guarded : Bool) (tp beff wear d : Nat),
    let e := cellPlan guarded tp beff wear d
    (e.cut = true ↔ guarded = false ∧ d < min tp (d + beff)) ∧
    (e.cut = true → d + 1 ≤ e.depth ∧ e.depth ≤ d + beff ∧ e.depth ≤ tp ∧
      (e.depth < d + beff → e.depth = tp ∧ e.short = false)) ∧
    (e.cut = false → e.depth = d) ∧ e.stock = d ∧ e.setpoint = e.depth + wear

/-- A cell is short when it is not protected and its planned depth is less than its phase target; with Beff at least 1
a short cell is a cut cell; a cell that reaches its phase target and a protected cell are not short. The short count of
a plan is the number of its short cells, and the end of its run adds that count to the remaining count. -/
def Obligations.ShortCellsAreCut : Prop :=
  (∀ (guarded : Bool) (tp beff wear d : Nat),
    let e := cellPlan guarded tp beff wear d
    (e.short = true ↔ guarded = false ∧ e.depth < tp) ∧ (1 ≤ beff → e.short = true → e.cut = true) ∧
    (e.depth = tp → e.short = false) ∧ (guarded = true → e.short = false)) ∧
  (∀ (s : State) (x : Station) (w : Work),
    (buildPlan s x w).shortCount = (buildPlan s x w).cells.countP CellPlan.short ∧
    (buildPlan s x w).runCut = (buildPlan s x w).cells.countP CellPlan.cut) ∧
  ∀ (s : State) (p : StationId) (pl : Plan) (w : Work), (s.st p).work = some w →
    ((closeRun p pl s).st p).work =
      some { w with remaining := w.remaining + pl.shortCount, column := w.column + 1 }

/-- With Beff constant an unprotected cell planned from depth 0 stands, after n passes, at the lesser of its phase
target and n bites; so it reaches it in ceil(tp / Beff) passes and no fewer (section 3.8). -/
def Obligations.PassesDeepenByOneBite : Prop :=
  ∀ tp beff wear n : Nat, 1 ≤ beff →
    let pass (d : Nat) : Nat := (cellPlan false tp beff wear d).depth
    pass^[n] 0 = min tp (n * beff) ∧ (pass^[n] 0 = tp ↔ (tp + beff - 1) / beff ≤ n)

/-! ## Cell timing -/

/-- A raw capture is stored as 1 for 0, as 65535 above that, else unchanged, at the head of the list, which loses its
oldest at 8 and counts one more below; a history of at most 8 values in 1..65535 stays one, and P stays in 1..65535. P
is the floor of the average of the newest min(N, h) captures, and P0 with an empty history. -/
def Obligations.CapturesStoredAndAveraged : Prop :=
  (∀ raw, storedCapture raw = if raw = 0 then 1 else if 65535 < raw then 65535 else raw) ∧
  (∀ raw history,
    (history.length < 8 → pushCapture raw history = storedCapture raw :: history) ∧
    (history.length = 8 → pushCapture raw history = storedCapture raw :: history.dropLast) ∧
    (history.length ≤ 8 → (∀ c ∈ history, 1 ≤ c ∧ c ≤ 65535) →
      (pushCapture raw history).length ≤ 8 ∧ ∀ c ∈ pushCapture raw history, 1 ≤ c ∧ c ≤ 65535)) ∧
  ∀ (x : Station) (c : StationConfig), x.config = some c → 1 ≤ c.avgDepth →
    (x.captures = [] → x.period = c.startPeriod) ∧
    (x.captures ≠ [] →
      x.period = (x.captures.take c.avgDepth).sum / min c.avgDepth x.captures.length) ∧
    (1 ≤ c.startPeriod → c.startPeriod ≤ 65535 → (∀ v ∈ x.captures, 1 ≤ v ∧ v ≤ 65535) →
      1 ≤ x.period ∧ x.period ≤ 65535)

/-- Mark 0 of a run outside a blank window: no capture and no exit; the approach timer stops, the blank and miss timers
start and the reference is this instant. In AT_MARK mode the setpoint of cell 0 is plunged; in LEAD mode, with a lead
delay above 0 and a second cell, the lead timer starts with the setpoint of cell 1 pending (sections 5.4, 5.6). The word
ends a partial one (the model's choice, log entry 15). -/
def Obligations.MarkEntersFirstCell : Prop :=
  ∀ (s : State) (p : StationId) (load : BitVec 16) (valid : Bool) (pl : Plan),
    s.inReset = false → load.toNat ≤ 1023 → (s.st p).state = .cutting → (s.st p).timers.blank = none →
    (s.st p).plan = some pl → pl.next = 0 → 1 ≤ pl.rows →
    ((s.st p).cfg.trigger = .atMark →
      exec (.mark p load valid) s = .next (transmit (s.modSt p (fun x =>
        { x with
          plan := some { pl with next := 1 }, captureRef := some s.tick
          counts := { x.counts with forcedRun := 0 }
          timers := { x.timers with
            approach := none
            blank := startTimer s.tick (x.period * x.cfg.blank / 128)
            miss := startTimer s.tick (x.period * x.cfg.miss / 64) }
          port := { queue := enqueueCmd (.plunge (pl.cell 0).setpoint) x.port.queue, partialWord := [] } })))) ∧
    ((s.st p).cfg.trigger = .lead → pl.pendingSetpoint = none → 2 ≤ pl.rows →
      (s.st p).period * (s.st p).cfg.lead / 128 ≠ 0 →
      exec (.mark p load valid) s = .next (transmit (s.modSt p (fun x =>
        { x with
          plan := some { pl with next := 1, pendingSetpoint := some (pl.cell 1).setpoint }, captureRef := some s.tick
          counts := { x.counts with forcedRun := 0 }
          timers := { x.timers with
            approach := none
            lead := startTimer s.tick (x.period * x.cfg.lead / 128)
            blank := startTimer s.tick (x.period * x.cfg.blank / 128)
            miss := startTimer s.tick (x.period * x.cfg.miss / 64) }
          port := { x.port with partialWord := [] } }))))

/-- Mark j ≥ 1 of a run, with a capture reference, leaving a cut cell without a valid load: the interval joins the
history, the stock depth becomes the planned depth, the due count rises and the previous residual becomes absent. In
AT_MARK mode mark j < n plunges the setpoint of cell j; in LEAD mode the mark that enters the last cell with a setpoint
pending plunges it late, counts it and sets LATE; the exit mark sends LIFT, adds the short count, advances the column
and with a park pending parks the station with SPIN OFF, while else the station takes its owed dressings or goes on, as
HeldStationPlansItsColumn spells out (sections 4.1, 5.3, 5.4, 5.6, 5.7, 7.6, 8.3, 9.2). The word ends a partial one
(the model's choice, log entry 15). -/
def Obligations.MarkLeavesCutCell : Prop :=
  ∀ (s : State) (p : StationId) (load : BitVec 16) (pl : Plan) (w : Work) (t0 : Nat),
    let j := pl.next
    let e := pl.cell (j - 1)
    let y : Station := { s.st p with captures := pushCapture (s.tick - t0) (s.st p).captures }
    let stock := w.stock.set (j - 1) ((w.stock.getD (j - 1) []).set pl.column e.depth)
    s.inReset = false → load.toNat ≤ 1023 → (s.st p).state = .cutting → (s.st p).timers.blank = none →
    (s.st p).plan = some pl → (s.st p).work = some w → (s.st p).captureRef = some t0 → 1 ≤ j → e.cut = true →
    ((s.st p).cfg.trigger = .atMark → j < pl.rows →
      exec (.mark p load false) s = .next (transmit (s.modSt p (fun x =>
        { x with
          captures := y.captures, prevResidual := none, dress := x.dress.countCut
          work := some { w with stock := stock }
          plan := some { pl with next := j + 1 }, captureRef := some s.tick
          counts := { x.counts with forcedRun := 0 }
          timers := { x.timers with
            approach := none
            blank := startTimer s.tick (y.period * x.cfg.blank / 128)
            miss := startTimer s.tick (y.period * x.cfg.miss / 64) }
          port := { queue := enqueueCmd (.plunge (pl.cell j).setpoint) x.port.queue, partialWord := [] } })))) ∧
    (∀ setpoint, (s.st p).cfg.trigger = .lead → j + 1 = pl.rows → pl.pendingSetpoint = some setpoint →
      exec (.mark p load false) s = .next (transmit (setFlag (.station p) 0x010 (s.modSt p (fun x =>
        { x with
          captures := y.captures, prevResidual := none, dress := x.dress.countCut
          work := some { w with stock := stock }
          plan := some { pl with next := j + 1, pendingSetpoint := none }, captureRef := some s.tick
          counts := { x.counts with forcedRun := 0, late := min 65535 (x.counts.late + 1) }
          timers := { x.timers with
            approach := none
            lead := none
            blank := startTimer s.tick (y.period * x.cfg.blank / 128)
            miss := startTimer s.tick (y.period * x.cfg.miss / 64) }
          port := { queue := enqueueCmd (.plunge setpoint) x.port.queue, partialWord := [] } }))))) ∧
    ((s.st p).cfg.trigger ≠ .step → j = pl.rows → (s.st p).parkPending = true →
      exec (.mark p load false) s = .next (transmit (s.modSt p (fun x =>
        { x with
          state := .parked, parkPending := false, holdPending := false
          captures := y.captures, prevResidual := none, dress := x.dress.countCut
          work := some { w with
            stock := stock, remaining := w.remaining + pl.shortCount, column := w.column + 1 }
          plan := none, captureRef := none
          counts := { x.counts with forcedRun := 0 }
          timers := { x.timers with approach := none, lead := none, blank := none, miss := none }
          port := { queue := enqueueCmd .spinOff (enqueueCmd .lift x.port.queue), partialWord := [] } })))) ∧
    ((s.st p).cfg.trigger ≠ .step → j = pl.rows → (s.st p).parkPending = false →
      exec (.mark p load false) s = .next (transmit (owedThenOn p .runEnd (s.modSt p (fun x =>
        { x with
          captures := y.captures, prevResidual := none, dress := x.dress.countCut
          work := some { w with
            stock := stock, remaining := w.remaining + pl.shortCount, column := w.column + 1 }
          plan := none, captureRef := some s.tick
          counts := { x.counts with forcedRun := 0 }
          timers := { x.timers with
            approach := none, miss := none, blank := startTimer s.tick (y.period * x.cfg.blank / 128) }
          port := { queue := enqueueCmd .lift x.port.queue, partialWord := [] } })))))

/-- A mark is ignored outside CUTTING and in trigger mode STEP, and inside the blank window it only raises the chatter
count, which stays at 255 (sections 5.1, 5.5). The word ends a partial one (the model's choice, log entry 15). -/
def Obligations.MarkIgnoredOrChatter : Prop :=
  ∀ (s : State) (p : StationId) (load : BitVec 16) (valid : Bool), s.inReset = false → load.toNat ≤ 1023 →
    (((s.st p).state ≠ .cutting ∨ (s.st p).cfg.trigger = .step) →
      exec (.mark p load valid) s = .next (s.modSt p (fun x => { x with port := { x.port with partialWord := [] } }))) ∧
    ((s.st p).state = .cutting → (s.st p).cfg.trigger ≠ .step → (s.st p).timers.blank ≠ none →
      exec (.mark p load valid) s = .next (s.modSt p (fun x =>
        { x with
          port := { x.port with partialWord := [] }
          counts := { x.counts with chatter := min 255 (x.counts.chatter + 1) } })))

/-- STEP of a station in CUTTING and trigger mode STEP, for a mark j < n: the exit of cell j-1 without a load for
j ≥ 1, the consecutive forced count 0, the setpoint of cell j plunged, no timer and no capture; in another trigger mode
it is refused with WRONG_STATE (section 5.6). -/
def Obligations.StepEntersNextCell : Prop :=
  ∀ (s : State) (tag : Byte) (rest : List Entry) (p : StationId) (pl : Plan),
    let f : Frame := ⟨0x0E, tag, stationPayload p⟩
    s.handles f rest → (s.st p).state = .cutting →
    ((s.st p).cfg.trigger ≠ .step → exec .stepCell s = .next (transmit (s.answered f rest 0x04 []))) ∧
    ((s.st p).cfg.trigger = .step → (s.st p).plan = some pl → pl.next < pl.rows →
      exec .stepCell s = .next (transmit ((s.modSt p (fun x =>
        let e := pl.cell (pl.next - 1)
        let leaves := decide (1 ≤ pl.next)
        { x.sends (.plunge (pl.cell pl.next).setpoint) with
          plan := some { pl with next := pl.next + 1 }
          prevResidual := if leaves then none else x.prevResidual
          dress := if leaves && e.cut then x.dress.countCut else x.dress
          work := if leaves && e.cut then x.work.map (fun w =>
              { w with
                stock := w.stock.set (pl.next - 1) ((w.stock.getD (pl.next - 1) []).set pl.column e.depth) })
            else x.work
          counts := { x.counts with forcedRun := 0 } })).answered f rest 0x00
            [3, flagByte (s.st p).holdPending, flagByte (s.st p).parkPending])))

/-- A timer started with a duration above 0 runs to the boundary that many ticks on; one of duration 0 does not run.
The expiry of the lead timer sends PLUNGE with the pending setpoint, which becomes absent; the expiry of the blank
timer closes the blank window (sections 1.6, 5.5, 5.6). An expiry taken while its timer is stopped, or before the
boundary its timer runs to, is none and changes nothing: that is the model's choice (log entry 6). -/
def Obligations.LeadAndBlankTimersExpire : Prop :=
  (∀ now duration : Nat, startTimer now duration = if duration = 0 then none else some (now + duration)) ∧
  ∀ (s : State) (p : StationId), s.inReset = false → (s.st p).state = .cutting →
    (∀ pl setpoint d, (s.st p).timers.lead = some d → d ≤ s.tick → (s.st p).plan = some pl →
      pl.pendingSetpoint = some setpoint →
      exec (.leadTimerExpiry p) s = .next (s.modSt p (fun x =>
        { x.sends (.plunge setpoint) with
          timers := { x.timers with lead := none }, plan := some { pl with pendingSetpoint := none } }))) ∧
    (∀ d, (s.st p).timers.blank = some d → d ≤ s.tick →
      exec (.blankTimerExpiry p) s = .next (s.modSt p (fun x =>
        { x with timers := { x.timers with blank := none } }))) ∧
    ((∀ d, (s.st p).timers.lead = some d → s.tick < d) → exec (.leadTimerExpiry p) s = .next s) ∧
    ((∀ d, (s.st p).timers.blank = some d → s.tick < d) → exec (.blankTimerExpiry p) s = .next s)

/-- The expiry of the miss timer with F above the consecutive count, in AT_MARK mode for a mark j in 1..n-1: a forced
advance, which records the exit without a load, raises both forced counts, sets MISSED, restarts the blank and miss
timers and plunges the setpoint of cell j, without a capture (section 6.2). Where an accepted mark is taken first, the
expiry does not occur: taken after the mark it changes nothing (section 6.3). That an expiry taken before the boundary
its timer runs to is none is the model's choice (log entry 6). -/
def Obligations.MissForcesAdvance : Prop :=
  ∀ (s : State) (p : StationId) (pl : Plan),
    let j := pl.next
    let e := pl.cell (j - 1)
    s.inReset = false → (s.st p).state = .cutting → (s.st p).plan = some pl →
    (∀ d, (s.st p).timers.miss = some d → d ≤ s.tick → (s.st p).timers.lead = none →
      (s.st p).cfg.trigger = .atMark → 1 ≤ j → j < pl.rows →
      (s.st p).counts.forcedRun < (s.st p).cfg.forcedLimit →
      exec (.missTimeout p) s = .next (transmit (setFlag (.station p) 0x004 (s.modSt p (fun x =>
        { x.sends (.plunge (pl.cell j).setpoint) with
          captureRef := none, plan := some { pl with next := j + 1 }, prevResidual := none
          dress := if e.cut then x.dress.countCut else x.dress
          work := if e.cut then x.work.map (fun w =>
              { w with stock := w.stock.set (j - 1) ((w.stock.getD (j - 1) []).set pl.column e.depth) })
            else x.work
          counts := { x.counts with
            forcedRun := x.counts.forcedRun + 1, forcedTotal := min 65535 (x.counts.forcedTotal + 1) }
          timers := { x.timers with
            blank := startTimer s.tick (x.period * x.cfg.blank / 128)
            miss := startTimer s.tick (x.period * x.cfg.miss / 64) } }))))) ∧
    ((∀ d, (s.st p).timers.miss = some d → s.tick < d) → exec (.missTimeout p) s = .next s) ∧
    (∀ (t : State) (load : BitVec 16) (valid : Bool), load.toNat ≤ 1023 → (s.st p).cfg.trigger ≠ .step →
      (s.st p).timers.blank = none → j ≤ pl.rows →
      exec (.mark p load valid) s = .next t → exec (.missTimeout p) t = .next t)

/-- An approach expiry, a miss expiry with the forced-advance limit reached, and a dress timeout send LIFT and SPIN
OFF, leave the station STALLED with its timers stopped, its plan and its dressing in flight gone and no request
pending, and set STALLED, or DRESS_TIMEOUT for the third (sections 6.4, 6.5, 8.7). An approach or dress expiry taken
while its timer is stopped, or before the boundary its timer runs to, is none (the model's choice, log entry 6). That
the previous residual stays is the model's choice (log entry 20). -/
def Obligations.TimeoutsStallTheStation : Prop :=
  ∀ (s : State) (p : StationId), s.inReset = false →
    let stalled (flag : FlagSet) : State :=
      transmit (setFlag (.station p) flag (s.modSt p (fun x =>
        { (x.sends .lift).sends .spinOff with
          state := .stalled, holdPending := false, parkPending := false, plan := none, captureRef := none
          timers := ⟨none, none, none, none, none, none⟩, dress := { x.dress with inFlight := none } })))
    (∀ d, (s.st p).state = .cutting → (s.st p).timers.approach = some d → d ≤ s.tick →
      exec (.approachTimeout p) s = .next (stalled 0x008)) ∧
    (∀ pl d, (s.st p).state = .cutting → (s.st p).timers.miss = some d → d ≤ s.tick → (s.st p).timers.lead = none →
      (s.st p).plan = some pl → 1 ≤ pl.next → pl.next ≤ pl.rows →
      (s.st p).cfg.forcedLimit ≤ (s.st p).counts.forcedRun →
      exec (.missTimeout p) s = .next (stalled 0x008)) ∧
    (∀ d, (s.st p).state = .dressing → (s.st p).timers.dress = some d → d ≤ s.tick →
      exec (.dressTimeout p) s = .next (stalled 0x100)) ∧
    ((∀ d, (s.st p).timers.approach = some d → s.tick < d) → exec (.approachTimeout p) s = .next s) ∧
    ((∀ d, (s.st p).timers.dress = some d → s.tick < d) → exec (.dressTimeout p) s = .next s)

/-! ## Load -/

/-- The expected load is min(1023, floor(K × b / 16)) and the residual the load less it: K × b is at most 255000, its
sixteenth at most 15937, E in 0..1023 and r in -1023..1023; r is positive exactly where the load is above E; at K = 0
the residual is the load, and at E = 1023 it is at most 0. -/
def Obligations.ResidualOfALoad : Prop :=
  ∀ hardness bite load : Nat, hardness ≤ 255 → bite ≤ 1000 → load ≤ 1023 →
    expectedLoad hardness bite = min 1023 (hardness * bite / 16) ∧ hardness * bite ≤ 255000 ∧
    hardness * bite / 16 ≤ 15937 ∧ expectedLoad hardness bite ≤ 1023 ∧
    residual hardness bite load = (load : Int) - expectedLoad hardness bite ∧
    -1023 ≤ residual hardness bite load ∧ residual hardness bite load ≤ 1023 ∧
    (0 < residual hardness bite load ↔ expectedLoad hardness bite < load) ∧
    (hardness = 0 → residual hardness bite load = load) ∧
    (1023 ≤ hardness * bite / 16 → residual hardness bite load ≤ 0)

/-- At mark j, 1 ≤ j < n, leaving a cut cell with a valid load: an overload raises the overload count, makes pass
overloaded yes, sets OVERLOAD and in ROUGH halves Beff, not below its floor; a spall sets SPALL and leaves the station
HELD with its plan gone and LIFT as its last command; without a spall the residual becomes the previous residual. The
cell is recorded either way, and nothing outside the station but the notice queue changes (sections 9.4, 9.5, 4.1).
That a plan entry keeps the stock depth it was planned from, of which the bite is worked, is deduced: the model's
choice (log entry 17). -/
def Obligations.OverloadHalvesBiteAndSpallHolds : Prop :=
  ∀ (s : State) (p : StationId) (load : BitVec 16) (pl : Plan) (w : Work),
    let x := s.st p
    let e := pl.cell (pl.next - 1)
    let r := residual x.cfg.hardness (e.depth - e.stock) load.toNat
    let spalls := ∃ q, x.prevResidual = some q ∧ (x.cfg.spall : Int) < q - r
    s.inReset = false → load.toNat ≤ 1023 → x.state = .cutting → x.cfg.trigger = .atMark → x.timers.blank = none →
    x.plan = some pl → x.work = some w → x.parkPending = false → 1 ≤ pl.next → pl.next < pl.rows → e.cut = true →
    ∃ t, exec (.mark p load true) s = .next (transmit t) ∧
      t = { s with stations := t.stations, noticeQueue := t.noticeQueue } ∧ (∀ q, q ≠ p → t.st q = s.st q) ∧
      (t.st p).dress = x.dress.countCut ∧ (t.st p).config = x.config ∧ (t.st p).strip = x.strip ∧
      (t.st p).work.map Work.stock =
        some (w.stock.set (pl.next - 1) ((w.stock.getD (pl.next - 1) []).set pl.column e.depth)) ∧
      ((x.cfg.overload : Int) < r →
        (t.st p).counts.overload = min 65535 (x.counts.overload + 1) ∧
        (t.st p).work.map Work.overloaded = some true ∧
        (t.st p).notices.pending &&& 0x040 = 0x040 ∧
        (w.phase = .rough → (t.st p).beff = max (x.beff / 2) (max 1 (x.cfg.bite / 4))) ∧
        (w.phase = .finish → (t.st p).beff = x.beff)) ∧
      (r ≤ (x.cfg.overload : Int) →
        (t.st p).counts.overload = x.counts.overload ∧ (t.st p).work.map Work.overloaded = some w.overloaded ∧
        (t.st p).beff = x.beff) ∧
      (spalls →
        (t.st p).state = .held ∧ (t.st p).plan = none ∧ (t.st p).notices.pending &&& 0x020 = 0x020 ∧
        (t.st p).port.queue = enqueueCmd .lift x.port.queue) ∧
      (¬ spalls → (t.st p).state = .cutting ∧ (t.st p).prevResidual = some r)

/-! ## Dressing -/

/-- The settle expiry in SPINUP begins the closing dressing: DRESS with 4 - qsum quarters, or 4 for qsum 0, a gauge and
the next dressing number modulo 16, and the dress timer starts in DRESSING (section 8.4). A settle expiry taken while
the timer is stopped, or before the boundary it runs to, is none (the model's choice, log entry 6). -/
def Obligations.ClosingDressingBegins : Prop :=
  ∀ (s : State) (p : StationId),
    let r := (s.st p).dress
    let quarters := if r.qsum = 0 then 4 else 4 - r.qsum
    let number := (r.number + 1) % 16
    s.inReset = false →
    (∀ d, (s.st p).state = .spinup → (s.st p).timers.settle = some d → d ≤ s.tick →
      exec (.settleExpiry p) s = .next (s.modSt p (fun x =>
        { x.sends (.dress quarters true number) with
          state := .dressing, plan := none, captureRef := none
          timers := ⟨none, none, none, none, none, startTimer s.tick (x.cfg.dressTimeout * 4096)⟩
          dress := { x.dress with number := number, inFlight := some ⟨quarters, true, number, .closing⟩ } }))) ∧
    ((∀ d, (s.st p).timers.settle = some d → s.tick < d) → exec (.settleExpiry p) s = .next s)

/-- A DRESSED out of DRESSING or with another number is ignored. The closing dressing of a spin-up with return state
IDLE, with its length: SPIN OFF and IDLE, the quarters credited, the owed and due counts 0, and the reference set if it
was undefined; a loss of more than 300 against the reference parks the station for wear with WORN set. An owed dressing
without a gauge is credited, and the next owed one is begun with the length of the mode and a gauge where its quarters
fill the group; after the last one called for at a run end or on the way into CUTTING the station is CUTTING again and
goes on, as HeldStationPlansItsColumn spells out (sections 8.3, 8.5, 8.6, 7.3). The word ends a partial one (the
model's choice, log entry 15). That the dressing in flight holds the point that called for it is the model's choice too
(log entry 17). -/
def Obligations.DressedCompletesOrIsIgnored : Prop :=
  ∀ (s : State) (p : StationId) (number : BitVec 4) (length : Option (BitVec 16)), s.inReset = false →
    (((s.st p).state ≠ .dressing ∨
        (∀ f, (s.st p).dress.inFlight = some f → f.number ≠ number.toNat)) →
      exec (.dressed p number length) s = .next (s.modSt p (fun x =>
        { x with port := { x.port with partialWord := [] } }))) ∧
    (∀ (q : Nat) (len : BitVec 16), (s.st p).state = .dressing →
      (s.st p).dress.inFlight = some ⟨q, true, number.toNat, .closing⟩ → (s.st p).dress.worn = false →
      (s.st p).dress.wear ≤ 300 → (s.st p).parkPending = false →
      ((s.st p).ret = .idle → (s.st p).dress.ref = none →
        exec (.dressed p number (some len)) s = .next (transmit (s.modSt p (fun x =>
          { x with
            state := .idle, holdPending := false, timers := { x.timers with dress := none }
            dress := { x.dress with
              inFlight := none, qsum := (x.dress.qsum + q) % 4, due := 0, owed := 0, ref := some len.toNat }
            port := { queue := enqueueCmd .spinOff x.port.queue, partialWord := [] } })))) ∧
      (∀ ref, (s.st p).dress.ref = some ref → 300 < ref - len.toNat →
        exec (.dressed p number (some len)) s = .next (transmit (setFlag (.station p) 0x080 (s.modSt p (fun x =>
          { x.outOfRun with
            state := .parked, holdPending := false, parkPending := false
            timers := { x.outOfRun.timers with dress := none }
            dress := { x.dress with
              inFlight := none, qsum := (x.dress.qsum + q) % 4, due := 0, owed := 0, wear := ref - len.toNat
              worn := true }
            port := { queue := enqueueCmd .spinOff x.port.queue, partialWord := [] } })))))) ∧
    (∀ (q : Nat) (point : CallPoint), (s.st p).state = .dressing →
      (s.st p).dress.inFlight = some ⟨q, false, number.toNat, .owed point⟩ → (s.st p).dress.worn = false →
      (s.st p).parkPending = false → (s.st p).holdPending = false → 2 ≤ (s.st p).dress.owed →
      exec (.dressed p number length) s = .next (transmit (s.modSt p (fun x =>
        let r := x.dress
        let qsum := (r.qsum + q) % 4
        let quarters := match r.mode with
          | .full => 4
          | .half => 2
          | .quarter => 1
        let next := (r.number + 1) % 16
        { x with
          plan := none, captureRef := none
          timers := ⟨none, none, none, none, none, startTimer s.tick (x.cfg.dressTimeout * 4096)⟩
          dress := { r with
            owed := r.owed - 1, qsum := qsum, number := next
            inFlight := some ⟨quarters, (qsum + quarters) % 4 == 0, next, .owed point⟩ }
          port :=
            { queue := enqueueCmd (.dress quarters ((qsum + quarters) % 4 == 0) next) x.port.queue
              partialWord := [] } })))) ∧
    (∀ (q : Nat) (point : CallPoint), point ≠ .stripDone → (s.st p).state = .dressing →
      (s.st p).dress.inFlight = some ⟨q, false, number.toNat, .owed point⟩ → (s.st p).dress.worn = false →
      (s.st p).parkPending = false → (s.st p).holdPending = false → (s.st p).dress.owed = 1 →
      exec (.dressed p number length) s = .next (transmit (carryOn (8 * (s.width + 2)) p (s.modSt p (fun x =>
        { x with
          state := .cutting, timers := { x.timers with dress := none }
          dress := { x.dress with inFlight := none, owed := 0, qsum := (x.dress.qsum + q) % 4 }
          port := { x.port with partialWord := [] } })))))

/-- The due count rises by one at each cut cell, and at the threshold of the mode, G, G/2 or G/4, the owed count rises
and the due count becomes 0 (section 8.2). A gauge: an undefined reference takes the length; against a defined one with
the worn flag clear the wear becomes max(w, ref - len), a negative difference counting as 0; with the flag set a
closing dressing takes the reference anew; the flag is set when the wear is above 300, and a set flag stays set
(section 8.6). -/
def Obligations.CutCountsAndGaugeResults : Prop :=
  (∀ r : DressRecord,
      let threshold := match r.mode with
        | .full => r.interval
        | .half => r.interval / 2
        | .quarter => r.interval / 4
      (r.due + 1 < threshold → r.countCut = { r with due := r.due + 1 }) ∧
      (threshold ≤ r.due + 1 → r.countCut = { r with due := 0, owed := min 65535 (r.owed + 1) })) ∧
  ∀ (r : DressRecord) (kind : DressKind) (len : Nat),
    (r.ref = none → (r.takeGauge kind (some len)).ref = some len ∧ (r.takeGauge kind (some len)).wear = r.wear) ∧
    (∀ ref, r.ref = some ref → r.worn = false →
      (r.takeGauge kind (some len)).ref = some ref ∧ (r.takeGauge kind (some len)).wear = max r.wear (ref - len)) ∧
    (∀ ref, r.ref = some ref → r.worn = true → kind = .closing →
      (r.takeGauge kind (some len)).ref = some len ∧ (r.takeGauge kind (some len)).wear = r.wear) ∧
    ((r.takeGauge kind (some len)).worn = true ↔
      r.worn = true ∨ 300 < (r.takeGauge kind (some len)).wear) ∧
    r.takeGauge kind none = r

/-- DRESS MODE with qsum 0 writes mode and interval and nothing else, and with qsum not 0 is refused with
PARTIAL_GROUP; TOOL CHANGED of a PARKED, IDLE, OFF or STOPPED station resets wear, reference, worn flag, qsum, due and
owed count and keeps the rest (section 8.8). -/
def Obligations.DressingRecordRequests : Prop :=
  ∀ (s : State) (tag : Byte) (rest : List Entry) (p : StationId),
    (∀ (mode : DressMode) (interval : Nat),
      let f : Frame := ⟨0x0F, tag, [byteOf p.val, mode.code] ++ halfBytes interval⟩
      s.handles f rest → 64 ≤ interval → interval ≤ 65532 → 4 ∣ interval →
      ((s.st p).dress.qsum = 0 →
        exec .dressMode s = .next (transmit ((s.modSt p (fun x =>
          { x with dress := { x.dress with mode := mode, interval := interval } })).answered f rest 0x00 []))) ∧
      ((s.st p).dress.qsum ≠ 0 → exec .dressMode s = .next (transmit (s.answered f rest 0x08 [])))) ∧
    (s.handles ⟨0x10, tag, stationPayload p⟩ rest →
      (s.st p).state ∈ [StationState.parked, .idle, .off, .stopped] →
      exec .toolChanged s = .next (transmit ((s.modSt p (fun x =>
        { x with dress := { x.dress with
            wear := 0, ref := none, worn := false, qsum := 0, due := 0, owed := 0 } })).answered
              ⟨0x10, tag, stationPayload p⟩ rest 0x00 [])))

/-! ## Notices -/

/-- Setting a flag: no change if it is pending; else it becomes pending, and the source joins the tail of the queue if
the flag is enabled and the source not queued (section 10.2, the table of the four cases). -/
def Obligations.FlagSetQueuesSourceOnce : Prop :=
  ∀ (s : State) (src : Source) (bit : Fin 16),
    let flag : FlagSet := 1#16 <<< bit.val
    let n := s.noticeSets src
    let set := s.setNoticeSets src { n with pending := n.pending ||| flag }
    (n.pending.getLsbD bit.val = true → setFlag src flag s = s) ∧
    (n.pending.getLsbD bit.val = false → n.enabled.getLsbD bit.val = false → setFlag src flag s = set) ∧
    (n.pending.getLsbD bit.val = false → n.enabled.getLsbD bit.val = true → src ∈ s.noticeQueue →
      setFlag src flag s = set) ∧
    (n.pending.getLsbD bit.val = false → n.enabled.getLsbD bit.val = true → src ∉ s.noticeQueue →
      setFlag src flag s = set.setQueue (s.noticeQueue ++ [src]))

/-- NOTICE MASK replaces the enabled set and queues the source when a pending flag becomes enabled and the source is
not queued; NOTICE CLEAR removes the named flags from the pending set; both reply the two sets as they then stand
(section 10.5). -/
def Obligations.NoticeMaskAndClearAnswered : Prop :=
  ∀ (s : State) (tag : Byte) (rest : List Entry) (src : Source) (flags : FlagSet),
    let payload := src.number :: halfBytes flags.toNat
    let n := s.noticeSets src
    flags &&& ~~~ src.allFlags = 0 →
    (s.handles ⟨0x13, tag, payload⟩ rest →
      exec .noticeMask s = .next
        (transmit { (s.setNoticeSets src { n with enabled := flags }).answered ⟨0x13, tag, payload⟩ rest 0x00
            (halfBytes n.pending.toNat ++ halfBytes flags.toNat) with
          noticeQueue :=
            if src ∉ s.noticeQueue ∧ n.pending &&& flags &&& ~~~ n.enabled ≠ 0 then s.noticeQueue ++ [src]
            else s.noticeQueue })) ∧
    (s.handles ⟨0x14, tag, payload⟩ rest →
      exec .noticeClear s = .next
        (transmit
          ((s.setNoticeSets src { n with pending := n.pending &&& ~~~ flags }).answered ⟨0x14, tag, payload⟩ rest 0x00
            (halfBytes (n.pending &&& ~~~ flags).toNat ++ halfBytes n.enabled.toNat))))

/-! ## Drive ports -/

/-- A full command queue turns away every command but LIFT and SPIN OFF, for which the unsent other words make room;
with 16 words left it takes the new one only if no unsent word is the same command, in place of the oldest unsent
(section 11.7). That the head of the queue is the word being sent, which stays and counts among the 16, and that a LIFT
or SPIN OFF is only appended, without the removal, while the queue has room are the model's choices (log entries 7 and
8). -/
def Obligations.FullQueueTakesOnlyStops : Prop :=
  ∀ (q : List DriveCmd) (c : DriveCmd),
    (q.length < 16 → enqueueCmd c q = q ++ [c]) ∧
    (16 ≤ q.length → c ≠ .lift → c ≠ .spinOff → enqueueCmd c q = q) ∧
    (∀ sent unsent, q = sent :: unsent → 16 ≤ q.length → (c = .lift ∨ c = .spinOff) →
      let left := unsent.filter (fun d => decide (d = .lift ∨ d = .spinOff))
      (left.length < 15 → enqueueCmd c q = sent :: left ++ [c]) ∧
      (15 ≤ left.length → c ∈ left → enqueueCmd c q = sent :: left) ∧
      (15 ≤ left.length → c ∉ left → enqueueCmd c q = sent :: left.tail ++ [c]))

/-- The end of a command word starts the next of the queue; a gap or a framing error discards the partial word; a whole
word with a bad check byte, an unknown code or fields out of range has no effect (section 11.7). That the head of the
queue is the word being sent, which DRIVE_COMMAND_SENT ends, and that DRIVE_WORD_DISCARDED gives its five bytes to the
receiver one after another are the model's choices (log entries 7 and 15). -/
def Obligations.DrivePortWords : Prop :=
  ∀ (s : State) (p : StationId), s.inReset = false →
    (∀ sent rest, (s.st p).port.queue = sent :: rest →
      exec (.driveCommandSent p) s = .next (s.modSt p (fun x => { x with port := { x.port with queue := rest } }))) ∧
    exec (.driveByteGap p) s = .next (s.modSt p (fun x => { x with port := { x.port with partialWord := [] } })) ∧
    (∀ code a b c check : Byte, (s.st p).port.partialWord = [] →
      (check ≠ crc8 [code, a, b, c] ∨ (code ≠ 0x81 ∧ code ≠ 0x82) ∨
        (code = 0x81 ∧ (1023 < a.toNat + 256 * b.toNat ∨ 1 < c.toNat)) ∨ (code = 0x82 ∧ a &&& 0x70 ≠ 0)) →
      exec (.driveWordDiscarded p [code, a, b, c, check]) s = .next s)

/-! ## Conditions that every step keeps -/

/-- The state right after reset meets every condition below. -/
def Obligations.ResetMeetsEveryCondition : Prop :=
  State.reset.ListBounded ∧ State.reset.QueueOnce ∧ State.reset.PortsBounded ∧ State.reset.HistoryBounded ∧
  State.reset.QuartersInRange ∧ State.reset.ForcedWithinLimit ∧ State.reset.StoppedWhileAsserted ∧
  State.reset.WornStationsRest ∧ State.reset.SlotsPlaced ∧ State.reset.SamplesClamped ∧ State.reset.MembersOnce ∧
  State.reset.FreeHasNothingToSend ∧ State.reset.CountsBounded

/-- Every step keeps the receive list at most four frame entries and four notes, DEAF with four notes, the notice queue
without repeats, every command queue at most 16 words, and a free transmitter with nothing to send: no reply in the slot
and, but while a RESET request is carried out, no source in the queue (sections 11.2, 10.3, 10.4, 11.7). -/
def Obligations.ListsAndQueuesStayBounded : Prop :=
  ∀ s t : State, step s = .next t →
    (s.ListBounded → t.ListBounded) ∧ (s.QueueOnce → t.QueueOnce) ∧ (s.PortsBounded → t.PortsBounded) ∧
    (s.FreeHasNothingToSend → t.FreeHasNothingToSend)

/-- Every step keeps every capture history at most 8 values in 1..65535, every quarter sum in 0..3, every consecutive
forced count within the station's limit, the chatter count at most 255, and the clamp, skipped-run, late, forced,
overload and owed counts and the pass number at most 65535 (sections 5.3, 8.3, 6.1, 3.3, 4.2, 4.3, 5.5, 5.6, 6.2, 8.2,
9.4). -/
def Obligations.StationCountsStayInRange : Prop :=
  ∀ s t : State, step s = .next t →
    (s.HistoryBounded → t.HistoryBounded) ∧ (s.QuartersInRange → t.QuartersInRange) ∧
    (s.ForcedWithinLimit → t.ForcedWithinLimit) ∧ (s.CountsBounded → t.CountsBounded)

/-- While the stop line is asserted no station works, every step keeps that, and no step then puts a SPIN ON, RUN or
PLUNGE into a command queue (section 7.8). -/
def Obligations.NothingMovesWhileStopLineAsserted : Prop :=
  ∀ s t : State, s.StoppedWhileAsserted → step s = .next t →
    t.StoppedWhileAsserted ∧
    (s.stopLine = true → t.stopLine = true → ∀ p, ∀ c ∈ (t.st p).port.queue, c.moves = true →
      c ∈ (s.st p).port.queue)

/-- Every step keeps a worn tool at rest: a wear above 300 has set the worn flag, and a worn station is not CUTTING, not
WAITING and takes no owed dressing; and only TOOL CHANGED or a reset lowers a wear (section 8.6). -/
def Obligations.WornToolsRestAndWearNeverFalls : Prop :=
  (∀ s t : State, s.WornStationsRest → step s = .next t → t.WornStationsRest) ∧
  ∀ (s t : State) (c : Instr), exec c s = .next t → c ≠ .toolChanged → c ≠ .resetPin →
    (∀ straps stop, c ≠ .resetPinRelease straps stop ∧ c ≠ .resetCompletion straps stop ∧
      c ≠ .powerOnReset straps stop) →
    ∀ p, (s.st p).dress.wear ≤ (t.st p).dress.wear

/-- Every step keeps each strip in the slot of its parity, every stored sample within 0..40000, and the participation
set in order without duplicates (sections 2.1, 2.2, 1.5). -/
def Obligations.SlotsAndMembersKeepTheirForm : Prop :=
  ∀ s t : State, step s = .next t → (s.SlotsPlaced → t.SlotsPlaced) ∧
    (s.SamplesClamped → t.SamplesClamped) ∧ (s.MembersOnce → t.MembersOnce)

/-- A station leaves OFF only by STATION CONFIG: no other command, drive event or timer moves it (section 7.1). -/
def Obligations.OffStationLeavesOnlyByConfig : Prop :=
  ∀ (s t : State) (c : Instr), exec c s = .next t → c ≠ .stationConfig →
    ∀ p, (s.st p).state = .off → (t.st p).state = .off

/-- The drive events and timers of one station change no other station (00_scope, section 4.5). -/
def Obligations.DriveEventTouchesOneStation : Prop :=
  ∀ (s t : State) (c : Instr) (p q : StationId), exec c s = .next t → p ≠ q →
    ((∃ load valid, c = .mark p load valid) ∨ (∃ number length, c = .dressed p number length) ∨
      (∃ bytes, c = .driveWordDiscarded p bytes) ∨
      c ∈ [Instr.driveByteGap p, .driveCommandSent p, .approachTimeout p, .leadTimerExpiry p, .blankTimerExpiry p,
        .missTimeout p, .settleExpiry p, .dressTimeout p]) →
    t.st q = s.st q
end

