-- ==== Sys2Proof/Laws/Operands.lean ====
section
/-! SUPPORT. The fields of a payload read back what was written into its bytes (R155, R163). -/

namespace Sys2Proof.Machine

/-- A byte of a number below 256 reads as that number. -/
theorem byteOf_toNat {n : Nat} (h : n < 256) : (byteOf n).toNat = n := by
  simp only [byteOf, BitVec.toNat_ofNat]; omega

/-- The two bytes of a number below 65536 read as that number. -/
theorem half_toNat {n : Nat} (h : n < 65536) :
    (byteOf (n % 256)).toNat + 256 * (byteOf (n / 256)).toNat = n := by
  rw [byteOf_toNat (Nat.mod_lt _ (by decide)), byteOf_toNat (by omega)]; omega

/-- The one-byte field after the bytes before it. -/
theorem byteAt_append (pre : List Byte) (b : Byte) (post : List Byte) :
    byteAt (pre ++ b :: post) pre.length = b.toNat := by
  simp [byteAt]

/-- The two-byte field after the bytes before it reads the number that was written (R155). -/
theorem halfAt_append (pre post : List Byte) {n : Nat} (h : n < 65536) :
    halfAt (pre ++ (halfBytes n ++ post)) pre.length = n := by
  have : halfAt (pre ++ (halfBytes n ++ post)) pre.length =
      (byteOf (n % 256)).toNat + 256 * (byteOf (n / 256)).toNat := by
    simp [halfAt, byteAt, halfBytes]
  rw [this, half_toNat h]

/-- The signed two-byte field reads the number that was written in two's complement (R155). -/
theorem signed_half {n : Int} (h : -32768 ≤ n ∧ n ≤ 32767) :
    (n % 65536).toNat < 65536 ∧
    (if (n % 65536).toNat < 32768 then ((n % 65536).toNat : Int) else ((n % 65536).toNat : Int) - 65536) = n := by
  constructor
  · omega
  · split <;> omega

/-- A station number reads back as the station. -/
theorem stationField_byteOf (p : StationId) (l : List Byte) : stationField (byteOf p.val :: l) = some p := by
  have h : byteAt (byteOf p.val :: l) 0 = p.val := by
    have := p.isLt
    simp only [byteAt, List.getD_cons_zero]; exact byteOf_toNat (by omega)
  simp [stationField, h]

/-- A source number reads back as the source. -/
theorem sourceField_number (src : Source) (l : List Byte) : sourceField (src.number :: l) = some src := by
  cases src with
  | station p => simp [sourceField, Source.number, stationField_byteOf]
  | global => rfl

/-- A flag set reads back from its two bytes (R163). -/
theorem flagSetAt_halfBytes (b : Byte) (flags : FlagSet) : flagSetAt (b :: halfBytes flags.toNat) 1 = flags := by
  have : halfAt (b :: halfBytes flags.toNat) 1 = flags.toNat := by
    simpa using halfAt_append [b] [] (n := flags.toNat) flags.isLt
  simp [flagSetAt, this]

end Sys2Proof.Machine
end

