-- ==== Sys2Proof/Laws/State.lean ====
section
/-! SUPPORT. One lemma per field for each named update of the state (Machine/Updates.lean), and for the operations built
on them alone: a change of one station, a command issued, a source queued, a flag set. -/

namespace Sys2Proof.Machine

/-! ## `State.setReceiver` -/

@[simp] theorem State.setReceiver_receiver (s : State) (r : Receiver) : (s.setReceiver r).receiver = r := rfl
@[simp] theorem State.setReceiver_recvList (s : State) (r : Receiver) : (s.setReceiver r).recvList = s.recvList := rfl
@[simp] theorem State.setReceiver_replySlot (s : State) (r : Receiver) :
    (s.setReceiver r).replySlot = s.replySlot := rfl
@[simp] theorem State.setReceiver_sending (s : State) (r : Receiver) : (s.setReceiver r).sending = s.sending := rfl
@[simp] theorem State.setReceiver_noticeQueue (s : State) (r : Receiver) :
    (s.setReceiver r).noticeQueue = s.noticeQueue := rfl
@[simp] theorem State.setReceiver_resetting (s : State) (r : Receiver) :
    (s.setReceiver r).resetting = s.resetting := rfl
@[simp] theorem State.setReceiver_baud (s : State) (r : Receiver) : (s.setReceiver r).baud = s.baud := rfl
@[simp] theorem State.setReceiver_inReset (s : State) (r : Receiver) : (s.setReceiver r).inReset = s.inReset := rfl
@[simp] theorem State.setReceiver_setup (s : State) (r : Receiver) : (s.setReceiver r).setup = s.setup := rfl
@[simp] theorem State.setReceiver_face (s : State) (r : Receiver) : (s.setReceiver r).face = s.face := rfl
@[simp] theorem State.setReceiver_tickExp (s : State) (r : Receiver) : (s.setReceiver r).tickExp = s.tickExp := rfl
@[simp] theorem State.setReceiver_members (s : State) (r : Receiver) : (s.setReceiver r).members = s.members := rfl
@[simp] theorem State.setReceiver_windows (s : State) (r : Receiver) : (s.setReceiver r).windows = s.windows := rfl
@[simp] theorem State.setReceiver_slots (s : State) (r : Receiver) : (s.setReceiver r).slots = s.slots := rfl
@[simp] theorem State.setReceiver_nextRow (s : State) (r : Receiver) : (s.setReceiver r).nextRow = s.nextRow := rfl
@[simp] theorem State.setReceiver_strip0Released (s : State) (r : Receiver) :
    (s.setReceiver r).strip0Released = s.strip0Released := rfl
@[simp] theorem State.setReceiver_stations (s : State) (r : Receiver) : (s.setReceiver r).stations = s.stations := rfl
@[simp] theorem State.setReceiver_globalNotices (s : State) (r : Receiver) :
    (s.setReceiver r).globalNotices = s.globalNotices := rfl
@[simp] theorem State.setReceiver_stopLine (s : State) (r : Receiver) : (s.setReceiver r).stopLine = s.stopLine := rfl
@[simp] theorem State.setReceiver_tick (s : State) (r : Receiver) : (s.setReceiver r).tick = s.tick := rfl
@[simp] theorem State.setReceiver_pending (s : State) (r : Receiver) : (s.setReceiver r).pending = s.pending := rfl
@[simp] theorem State.setReceiver_st (s : State) (r : Receiver) (p : StationId) : (s.setReceiver r).st p = s.st p := rfl

/-! ## `State.setList` -/

@[simp] theorem State.setList_receiver (s : State) (l : List Entry) : (s.setList l).receiver = s.receiver := rfl
@[simp] theorem State.setList_recvList (s : State) (l : List Entry) : (s.setList l).recvList = l := rfl
@[simp] theorem State.setList_replySlot (s : State) (l : List Entry) : (s.setList l).replySlot = s.replySlot := rfl
@[simp] theorem State.setList_sending (s : State) (l : List Entry) : (s.setList l).sending = s.sending := rfl
@[simp] theorem State.setList_noticeQueue (s : State) (l : List Entry) :
    (s.setList l).noticeQueue = s.noticeQueue := rfl
@[simp] theorem State.setList_resetting (s : State) (l : List Entry) : (s.setList l).resetting = s.resetting := rfl
@[simp] theorem State.setList_baud (s : State) (l : List Entry) : (s.setList l).baud = s.baud := rfl
@[simp] theorem State.setList_inReset (s : State) (l : List Entry) : (s.setList l).inReset = s.inReset := rfl
@[simp] theorem State.setList_setup (s : State) (l : List Entry) : (s.setList l).setup = s.setup := rfl
@[simp] theorem State.setList_face (s : State) (l : List Entry) : (s.setList l).face = s.face := rfl
@[simp] theorem State.setList_tickExp (s : State) (l : List Entry) : (s.setList l).tickExp = s.tickExp := rfl
@[simp] theorem State.setList_members (s : State) (l : List Entry) : (s.setList l).members = s.members := rfl
@[simp] theorem State.setList_windows (s : State) (l : List Entry) : (s.setList l).windows = s.windows := rfl
@[simp] theorem State.setList_slots (s : State) (l : List Entry) : (s.setList l).slots = s.slots := rfl
@[simp] theorem State.setList_nextRow (s : State) (l : List Entry) : (s.setList l).nextRow = s.nextRow := rfl
@[simp] theorem State.setList_strip0Released (s : State) (l : List Entry) :
    (s.setList l).strip0Released = s.strip0Released := rfl
@[simp] theorem State.setList_stations (s : State) (l : List Entry) : (s.setList l).stations = s.stations := rfl
@[simp] theorem State.setList_globalNotices (s : State) (l : List Entry) :
    (s.setList l).globalNotices = s.globalNotices := rfl
@[simp] theorem State.setList_stopLine (s : State) (l : List Entry) : (s.setList l).stopLine = s.stopLine := rfl
@[simp] theorem State.setList_tick (s : State) (l : List Entry) : (s.setList l).tick = s.tick := rfl
@[simp] theorem State.setList_pending (s : State) (l : List Entry) : (s.setList l).pending = s.pending := rfl
@[simp] theorem State.setList_st (s : State) (l : List Entry) (p : StationId) : (s.setList l).st p = s.st p := rfl

/-! ## `State.setReply` -/

@[simp] theorem State.setReply_receiver (s : State) (r : Option Frame) : (s.setReply r).receiver = s.receiver := rfl
@[simp] theorem State.setReply_recvList (s : State) (r : Option Frame) : (s.setReply r).recvList = s.recvList := rfl
@[simp] theorem State.setReply_replySlot (s : State) (r : Option Frame) : (s.setReply r).replySlot = r := rfl
@[simp] theorem State.setReply_sending (s : State) (r : Option Frame) : (s.setReply r).sending = s.sending := rfl
@[simp] theorem State.setReply_noticeQueue (s : State) (r : Option Frame) :
    (s.setReply r).noticeQueue = s.noticeQueue := rfl
@[simp] theorem State.setReply_resetting (s : State) (r : Option Frame) : (s.setReply r).resetting = s.resetting := rfl
@[simp] theorem State.setReply_baud (s : State) (r : Option Frame) : (s.setReply r).baud = s.baud := rfl
@[simp] theorem State.setReply_inReset (s : State) (r : Option Frame) : (s.setReply r).inReset = s.inReset := rfl
@[simp] theorem State.setReply_setup (s : State) (r : Option Frame) : (s.setReply r).setup = s.setup := rfl
@[simp] theorem State.setReply_face (s : State) (r : Option Frame) : (s.setReply r).face = s.face := rfl
@[simp] theorem State.setReply_tickExp (s : State) (r : Option Frame) : (s.setReply r).tickExp = s.tickExp := rfl
@[simp] theorem State.setReply_members (s : State) (r : Option Frame) : (s.setReply r).members = s.members := rfl
@[simp] theorem State.setReply_windows (s : State) (r : Option Frame) : (s.setReply r).windows = s.windows := rfl
@[simp] theorem State.setReply_slots (s : State) (r : Option Frame) : (s.setReply r).slots = s.slots := rfl
@[simp] theorem State.setReply_nextRow (s : State) (r : Option Frame) : (s.setReply r).nextRow = s.nextRow := rfl
@[simp] theorem State.setReply_strip0Released (s : State) (r : Option Frame) :
    (s.setReply r).strip0Released = s.strip0Released := rfl
@[simp] theorem State.setReply_stations (s : State) (r : Option Frame) : (s.setReply r).stations = s.stations := rfl
@[simp] theorem State.setReply_globalNotices (s : State) (r : Option Frame) :
    (s.setReply r).globalNotices = s.globalNotices := rfl
@[simp] theorem State.setReply_stopLine (s : State) (r : Option Frame) : (s.setReply r).stopLine = s.stopLine := rfl
@[simp] theorem State.setReply_tick (s : State) (r : Option Frame) : (s.setReply r).tick = s.tick := rfl
@[simp] theorem State.setReply_pending (s : State) (r : Option Frame) : (s.setReply r).pending = s.pending := rfl
@[simp] theorem State.setReply_st (s : State) (r : Option Frame) (p : StationId) : (s.setReply r).st p = s.st p := rfl

/-! ## `State.setSending` -/

@[simp] theorem State.setSending_receiver (s : State) (b : Option (List Byte)) :
    (s.setSending b).receiver = s.receiver := rfl
@[simp] theorem State.setSending_recvList (s : State) (b : Option (List Byte)) :
    (s.setSending b).recvList = s.recvList := rfl
@[simp] theorem State.setSending_replySlot (s : State) (b : Option (List Byte)) :
    (s.setSending b).replySlot = s.replySlot := rfl
@[simp] theorem State.setSending_sending (s : State) (b : Option (List Byte)) : (s.setSending b).sending = b := rfl
@[simp] theorem State.setSending_noticeQueue (s : State) (b : Option (List Byte)) :
    (s.setSending b).noticeQueue = s.noticeQueue := rfl
@[simp] theorem State.setSending_resetting (s : State) (b : Option (List Byte)) :
    (s.setSending b).resetting = s.resetting := rfl
@[simp] theorem State.setSending_baud (s : State) (b : Option (List Byte)) : (s.setSending b).baud = s.baud := rfl
@[simp] theorem State.setSending_inReset (s : State) (b : Option (List Byte)) :
    (s.setSending b).inReset = s.inReset := rfl
@[simp] theorem State.setSending_setup (s : State) (b : Option (List Byte)) : (s.setSending b).setup = s.setup := rfl
@[simp] theorem State.setSending_face (s : State) (b : Option (List Byte)) : (s.setSending b).face = s.face := rfl
@[simp] theorem State.setSending_tickExp (s : State) (b : Option (List Byte)) :
    (s.setSending b).tickExp = s.tickExp := rfl
@[simp] theorem State.setSending_members (s : State) (b : Option (List Byte)) :
    (s.setSending b).members = s.members := rfl
@[simp] theorem State.setSending_windows (s : State) (b : Option (List Byte)) :
    (s.setSending b).windows = s.windows := rfl
@[simp] theorem State.setSending_slots (s : State) (b : Option (List Byte)) : (s.setSending b).slots = s.slots := rfl
@[simp] theorem State.setSending_nextRow (s : State) (b : Option (List Byte)) :
    (s.setSending b).nextRow = s.nextRow := rfl
@[simp] theorem State.setSending_strip0Released (s : State) (b : Option (List Byte)) :
    (s.setSending b).strip0Released = s.strip0Released := rfl
@[simp] theorem State.setSending_stations (s : State) (b : Option (List Byte)) :
    (s.setSending b).stations = s.stations := rfl
@[simp] theorem State.setSending_globalNotices (s : State) (b : Option (List Byte)) :
    (s.setSending b).globalNotices = s.globalNotices := rfl
@[simp] theorem State.setSending_stopLine (s : State) (b : Option (List Byte)) :
    (s.setSending b).stopLine = s.stopLine := rfl
@[simp] theorem State.setSending_tick (s : State) (b : Option (List Byte)) : (s.setSending b).tick = s.tick := rfl
@[simp] theorem State.setSending_pending (s : State) (b : Option (List Byte)) :
    (s.setSending b).pending = s.pending := rfl
@[simp] theorem State.setSending_st (s : State) (b : Option (List Byte)) (p : StationId) :
    (s.setSending b).st p = s.st p := rfl

/-! ## `State.setQueue` -/

@[simp] theorem State.setQueue_receiver (s : State) (q : List Source) : (s.setQueue q).receiver = s.receiver := rfl
@[simp] theorem State.setQueue_recvList (s : State) (q : List Source) : (s.setQueue q).recvList = s.recvList := rfl
@[simp] theorem State.setQueue_replySlot (s : State) (q : List Source) : (s.setQueue q).replySlot = s.replySlot := rfl
@[simp] theorem State.setQueue_sending (s : State) (q : List Source) : (s.setQueue q).sending = s.sending := rfl
@[simp] theorem State.setQueue_noticeQueue (s : State) (q : List Source) : (s.setQueue q).noticeQueue = q := rfl
@[simp] theorem State.setQueue_resetting (s : State) (q : List Source) : (s.setQueue q).resetting = s.resetting := rfl
@[simp] theorem State.setQueue_baud (s : State) (q : List Source) : (s.setQueue q).baud = s.baud := rfl
@[simp] theorem State.setQueue_inReset (s : State) (q : List Source) : (s.setQueue q).inReset = s.inReset := rfl
@[simp] theorem State.setQueue_setup (s : State) (q : List Source) : (s.setQueue q).setup = s.setup := rfl
@[simp] theorem State.setQueue_face (s : State) (q : List Source) : (s.setQueue q).face = s.face := rfl
@[simp] theorem State.setQueue_tickExp (s : State) (q : List Source) : (s.setQueue q).tickExp = s.tickExp := rfl
@[simp] theorem State.setQueue_members (s : State) (q : List Source) : (s.setQueue q).members = s.members := rfl
@[simp] theorem State.setQueue_windows (s : State) (q : List Source) : (s.setQueue q).windows = s.windows := rfl
@[simp] theorem State.setQueue_slots (s : State) (q : List Source) : (s.setQueue q).slots = s.slots := rfl
@[simp] theorem State.setQueue_nextRow (s : State) (q : List Source) : (s.setQueue q).nextRow = s.nextRow := rfl
@[simp] theorem State.setQueue_strip0Released (s : State) (q : List Source) :
    (s.setQueue q).strip0Released = s.strip0Released := rfl
@[simp] theorem State.setQueue_stations (s : State) (q : List Source) : (s.setQueue q).stations = s.stations := rfl
@[simp] theorem State.setQueue_globalNotices (s : State) (q : List Source) :
    (s.setQueue q).globalNotices = s.globalNotices := rfl
@[simp] theorem State.setQueue_stopLine (s : State) (q : List Source) : (s.setQueue q).stopLine = s.stopLine := rfl
@[simp] theorem State.setQueue_tick (s : State) (q : List Source) : (s.setQueue q).tick = s.tick := rfl
@[simp] theorem State.setQueue_pending (s : State) (q : List Source) : (s.setQueue q).pending = s.pending := rfl
@[simp] theorem State.setQueue_st (s : State) (q : List Source) (p : StationId) : (s.setQueue q).st p = s.st p := rfl

/-! ## `State.setResetting` -/

@[simp] theorem State.setResetting_receiver (s : State) (b : Bool) : (s.setResetting b).receiver = s.receiver := rfl
@[simp] theorem State.setResetting_recvList (s : State) (b : Bool) : (s.setResetting b).recvList = s.recvList := rfl
@[simp] theorem State.setResetting_replySlot (s : State) (b : Bool) : (s.setResetting b).replySlot = s.replySlot := rfl
@[simp] theorem State.setResetting_sending (s : State) (b : Bool) : (s.setResetting b).sending = s.sending := rfl
@[simp] theorem State.setResetting_noticeQueue (s : State) (b : Bool) :
    (s.setResetting b).noticeQueue = s.noticeQueue := rfl
@[simp] theorem State.setResetting_resetting (s : State) (b : Bool) : (s.setResetting b).resetting = b := rfl
@[simp] theorem State.setResetting_baud (s : State) (b : Bool) : (s.setResetting b).baud = s.baud := rfl
@[simp] theorem State.setResetting_inReset (s : State) (b : Bool) : (s.setResetting b).inReset = s.inReset := rfl
@[simp] theorem State.setResetting_setup (s : State) (b : Bool) : (s.setResetting b).setup = s.setup := rfl
@[simp] theorem State.setResetting_face (s : State) (b : Bool) : (s.setResetting b).face = s.face := rfl
@[simp] theorem State.setResetting_tickExp (s : State) (b : Bool) : (s.setResetting b).tickExp = s.tickExp := rfl
@[simp] theorem State.setResetting_members (s : State) (b : Bool) : (s.setResetting b).members = s.members := rfl
@[simp] theorem State.setResetting_windows (s : State) (b : Bool) : (s.setResetting b).windows = s.windows := rfl
@[simp] theorem State.setResetting_slots (s : State) (b : Bool) : (s.setResetting b).slots = s.slots := rfl
@[simp] theorem State.setResetting_nextRow (s : State) (b : Bool) : (s.setResetting b).nextRow = s.nextRow := rfl
@[simp] theorem State.setResetting_strip0Released (s : State) (b : Bool) :
    (s.setResetting b).strip0Released = s.strip0Released := rfl
@[simp] theorem State.setResetting_stations (s : State) (b : Bool) : (s.setResetting b).stations = s.stations := rfl
@[simp] theorem State.setResetting_globalNotices (s : State) (b : Bool) :
    (s.setResetting b).globalNotices = s.globalNotices := rfl
@[simp] theorem State.setResetting_stopLine (s : State) (b : Bool) : (s.setResetting b).stopLine = s.stopLine := rfl
@[simp] theorem State.setResetting_tick (s : State) (b : Bool) : (s.setResetting b).tick = s.tick := rfl
@[simp] theorem State.setResetting_pending (s : State) (b : Bool) : (s.setResetting b).pending = s.pending := rfl
@[simp] theorem State.setResetting_st (s : State) (b : Bool) (p : StationId) : (s.setResetting b).st p = s.st p := rfl

/-! ## `State.setSetup` -/

@[simp] theorem State.setSetup_receiver (s : State) (st : SetupState) : (s.setSetup st).receiver = s.receiver := rfl
@[simp] theorem State.setSetup_recvList (s : State) (st : SetupState) : (s.setSetup st).recvList = s.recvList := rfl
@[simp] theorem State.setSetup_replySlot (s : State) (st : SetupState) : (s.setSetup st).replySlot = s.replySlot := rfl
@[simp] theorem State.setSetup_sending (s : State) (st : SetupState) : (s.setSetup st).sending = s.sending := rfl
@[simp] theorem State.setSetup_noticeQueue (s : State) (st : SetupState) :
    (s.setSetup st).noticeQueue = s.noticeQueue := rfl
@[simp] theorem State.setSetup_resetting (s : State) (st : SetupState) : (s.setSetup st).resetting = s.resetting := rfl
@[simp] theorem State.setSetup_baud (s : State) (st : SetupState) : (s.setSetup st).baud = s.baud := rfl
@[simp] theorem State.setSetup_inReset (s : State) (st : SetupState) : (s.setSetup st).inReset = s.inReset := rfl
@[simp] theorem State.setSetup_setup (s : State) (st : SetupState) : (s.setSetup st).setup = st := rfl
@[simp] theorem State.setSetup_face (s : State) (st : SetupState) : (s.setSetup st).face = s.face := rfl
@[simp] theorem State.setSetup_tickExp (s : State) (st : SetupState) : (s.setSetup st).tickExp = s.tickExp := rfl
@[simp] theorem State.setSetup_members (s : State) (st : SetupState) : (s.setSetup st).members = s.members := rfl
@[simp] theorem State.setSetup_windows (s : State) (st : SetupState) : (s.setSetup st).windows = s.windows := rfl
@[simp] theorem State.setSetup_slots (s : State) (st : SetupState) : (s.setSetup st).slots = s.slots := rfl
@[simp] theorem State.setSetup_nextRow (s : State) (st : SetupState) : (s.setSetup st).nextRow = s.nextRow := rfl
@[simp] theorem State.setSetup_strip0Released (s : State) (st : SetupState) :
    (s.setSetup st).strip0Released = s.strip0Released := rfl
@[simp] theorem State.setSetup_stations (s : State) (st : SetupState) : (s.setSetup st).stations = s.stations := rfl
@[simp] theorem State.setSetup_globalNotices (s : State) (st : SetupState) :
    (s.setSetup st).globalNotices = s.globalNotices := rfl
@[simp] theorem State.setSetup_stopLine (s : State) (st : SetupState) : (s.setSetup st).stopLine = s.stopLine := rfl
@[simp] theorem State.setSetup_tick (s : State) (st : SetupState) : (s.setSetup st).tick = s.tick := rfl
@[simp] theorem State.setSetup_pending (s : State) (st : SetupState) : (s.setSetup st).pending = s.pending := rfl
@[simp] theorem State.setSetup_st (s : State) (st : SetupState) (p : StationId) : (s.setSetup st).st p = s.st p := rfl

/-! ## `State.setMembers` -/

@[simp] theorem State.setMembers_receiver (s : State) (m : List StationId) :
    (s.setMembers m).receiver = s.receiver := rfl
@[simp] theorem State.setMembers_recvList (s : State) (m : List StationId) :
    (s.setMembers m).recvList = s.recvList := rfl
@[simp] theorem State.setMembers_replySlot (s : State) (m : List StationId) :
    (s.setMembers m).replySlot = s.replySlot := rfl
@[simp] theorem State.setMembers_sending (s : State) (m : List StationId) : (s.setMembers m).sending = s.sending := rfl
@[simp] theorem State.setMembers_noticeQueue (s : State) (m : List StationId) :
    (s.setMembers m).noticeQueue = s.noticeQueue := rfl
@[simp] theorem State.setMembers_resetting (s : State) (m : List StationId) :
    (s.setMembers m).resetting = s.resetting := rfl
@[simp] theorem State.setMembers_baud (s : State) (m : List StationId) : (s.setMembers m).baud = s.baud := rfl
@[simp] theorem State.setMembers_inReset (s : State) (m : List StationId) : (s.setMembers m).inReset = s.inReset := rfl
@[simp] theorem State.setMembers_setup (s : State) (m : List StationId) : (s.setMembers m).setup = s.setup := rfl
@[simp] theorem State.setMembers_face (s : State) (m : List StationId) : (s.setMembers m).face = s.face := rfl
@[simp] theorem State.setMembers_tickExp (s : State) (m : List StationId) : (s.setMembers m).tickExp = s.tickExp := rfl
@[simp] theorem State.setMembers_members (s : State) (m : List StationId) : (s.setMembers m).members = m := rfl
@[simp] theorem State.setMembers_windows (s : State) (m : List StationId) : (s.setMembers m).windows = s.windows := rfl
@[simp] theorem State.setMembers_slots (s : State) (m : List StationId) : (s.setMembers m).slots = s.slots := rfl
@[simp] theorem State.setMembers_nextRow (s : State) (m : List StationId) : (s.setMembers m).nextRow = s.nextRow := rfl
@[simp] theorem State.setMembers_strip0Released (s : State) (m : List StationId) :
    (s.setMembers m).strip0Released = s.strip0Released := rfl
@[simp] theorem State.setMembers_stations (s : State) (m : List StationId) :
    (s.setMembers m).stations = s.stations := rfl
@[simp] theorem State.setMembers_globalNotices (s : State) (m : List StationId) :
    (s.setMembers m).globalNotices = s.globalNotices := rfl
@[simp] theorem State.setMembers_stopLine (s : State) (m : List StationId) :
    (s.setMembers m).stopLine = s.stopLine := rfl
@[simp] theorem State.setMembers_tick (s : State) (m : List StationId) : (s.setMembers m).tick = s.tick := rfl
@[simp] theorem State.setMembers_pending (s : State) (m : List StationId) : (s.setMembers m).pending = s.pending := rfl
@[simp] theorem State.setMembers_st (s : State) (m : List StationId) (p : StationId) :
    (s.setMembers m).st p = s.st p := rfl

/-! ## `State.setWindows` -/

@[simp] theorem State.setWindows_receiver (s : State) (w : Vector (Option Window) 4) :
    (s.setWindows w).receiver = s.receiver := rfl
@[simp] theorem State.setWindows_recvList (s : State) (w : Vector (Option Window) 4) :
    (s.setWindows w).recvList = s.recvList := rfl
@[simp] theorem State.setWindows_replySlot (s : State) (w : Vector (Option Window) 4) :
    (s.setWindows w).replySlot = s.replySlot := rfl
@[simp] theorem State.setWindows_sending (s : State) (w : Vector (Option Window) 4) :
    (s.setWindows w).sending = s.sending := rfl
@[simp] theorem State.setWindows_noticeQueue (s : State) (w : Vector (Option Window) 4) :
    (s.setWindows w).noticeQueue = s.noticeQueue := rfl
@[simp] theorem State.setWindows_resetting (s : State) (w : Vector (Option Window) 4) :
    (s.setWindows w).resetting = s.resetting := rfl
@[simp] theorem State.setWindows_baud (s : State) (w : Vector (Option Window) 4) : (s.setWindows w).baud = s.baud := rfl
@[simp] theorem State.setWindows_inReset (s : State) (w : Vector (Option Window) 4) :
    (s.setWindows w).inReset = s.inReset := rfl
@[simp] theorem State.setWindows_setup (s : State) (w : Vector (Option Window) 4) :
    (s.setWindows w).setup = s.setup := rfl
@[simp] theorem State.setWindows_face (s : State) (w : Vector (Option Window) 4) : (s.setWindows w).face = s.face := rfl
@[simp] theorem State.setWindows_tickExp (s : State) (w : Vector (Option Window) 4) :
    (s.setWindows w).tickExp = s.tickExp := rfl
@[simp] theorem State.setWindows_members (s : State) (w : Vector (Option Window) 4) :
    (s.setWindows w).members = s.members := rfl
@[simp] theorem State.setWindows_windows (s : State) (w : Vector (Option Window) 4) :
    (s.setWindows w).windows = w := rfl
@[simp] theorem State.setWindows_slots (s : State) (w : Vector (Option Window) 4) :
    (s.setWindows w).slots = s.slots := rfl
@[simp] theorem State.setWindows_nextRow (s : State) (w : Vector (Option Window) 4) :
    (s.setWindows w).nextRow = s.nextRow := rfl
@[simp] theorem State.setWindows_strip0Released (s : State) (w : Vector (Option Window) 4) :
    (s.setWindows w).strip0Released = s.strip0Released := rfl
@[simp] theorem State.setWindows_stations (s : State) (w : Vector (Option Window) 4) :
    (s.setWindows w).stations = s.stations := rfl
@[simp] theorem State.setWindows_globalNotices (s : State) (w : Vector (Option Window) 4) :
    (s.setWindows w).globalNotices = s.globalNotices := rfl
@[simp] theorem State.setWindows_stopLine (s : State) (w : Vector (Option Window) 4) :
    (s.setWindows w).stopLine = s.stopLine := rfl
@[simp] theorem State.setWindows_tick (s : State) (w : Vector (Option Window) 4) : (s.setWindows w).tick = s.tick := rfl
@[simp] theorem State.setWindows_pending (s : State) (w : Vector (Option Window) 4) :
    (s.setWindows w).pending = s.pending := rfl
@[simp] theorem State.setWindows_st (s : State) (w : Vector (Option Window) 4) (p : StationId) :
    (s.setWindows w).st p = s.st p := rfl

/-! ## `State.setSlots` -/

@[simp] theorem State.setSlots_receiver (s : State) (v : Vector Slot 2) : (s.setSlots v).receiver = s.receiver := rfl
@[simp] theorem State.setSlots_recvList (s : State) (v : Vector Slot 2) : (s.setSlots v).recvList = s.recvList := rfl
@[simp] theorem State.setSlots_replySlot (s : State) (v : Vector Slot 2) : (s.setSlots v).replySlot = s.replySlot := rfl
@[simp] theorem State.setSlots_sending (s : State) (v : Vector Slot 2) : (s.setSlots v).sending = s.sending := rfl
@[simp] theorem State.setSlots_noticeQueue (s : State) (v : Vector Slot 2) :
    (s.setSlots v).noticeQueue = s.noticeQueue := rfl
@[simp] theorem State.setSlots_resetting (s : State) (v : Vector Slot 2) : (s.setSlots v).resetting = s.resetting := rfl
@[simp] theorem State.setSlots_baud (s : State) (v : Vector Slot 2) : (s.setSlots v).baud = s.baud := rfl
@[simp] theorem State.setSlots_inReset (s : State) (v : Vector Slot 2) : (s.setSlots v).inReset = s.inReset := rfl
@[simp] theorem State.setSlots_setup (s : State) (v : Vector Slot 2) : (s.setSlots v).setup = s.setup := rfl
@[simp] theorem State.setSlots_face (s : State) (v : Vector Slot 2) : (s.setSlots v).face = s.face := rfl
@[simp] theorem State.setSlots_tickExp (s : State) (v : Vector Slot 2) : (s.setSlots v).tickExp = s.tickExp := rfl
@[simp] theorem State.setSlots_members (s : State) (v : Vector Slot 2) : (s.setSlots v).members = s.members := rfl
@[simp] theorem State.setSlots_windows (s : State) (v : Vector Slot 2) : (s.setSlots v).windows = s.windows := rfl
@[simp] theorem State.setSlots_slots (s : State) (v : Vector Slot 2) : (s.setSlots v).slots = v := rfl
@[simp] theorem State.setSlots_nextRow (s : State) (v : Vector Slot 2) : (s.setSlots v).nextRow = s.nextRow := rfl
@[simp] theorem State.setSlots_strip0Released (s : State) (v : Vector Slot 2) :
    (s.setSlots v).strip0Released = s.strip0Released := rfl
@[simp] theorem State.setSlots_stations (s : State) (v : Vector Slot 2) : (s.setSlots v).stations = s.stations := rfl
@[simp] theorem State.setSlots_globalNotices (s : State) (v : Vector Slot 2) :
    (s.setSlots v).globalNotices = s.globalNotices := rfl
@[simp] theorem State.setSlots_stopLine (s : State) (v : Vector Slot 2) : (s.setSlots v).stopLine = s.stopLine := rfl
@[simp] theorem State.setSlots_tick (s : State) (v : Vector Slot 2) : (s.setSlots v).tick = s.tick := rfl
@[simp] theorem State.setSlots_pending (s : State) (v : Vector Slot 2) : (s.setSlots v).pending = s.pending := rfl
@[simp] theorem State.setSlots_st (s : State) (v : Vector Slot 2) (p : StationId) : (s.setSlots v).st p = s.st p := rfl

/-! ## `State.setNextRow` -/

@[simp] theorem State.setNextRow_receiver (s : State) (r : Nat) : (s.setNextRow r).receiver = s.receiver := rfl
@[simp] theorem State.setNextRow_recvList (s : State) (r : Nat) : (s.setNextRow r).recvList = s.recvList := rfl
@[simp] theorem State.setNextRow_replySlot (s : State) (r : Nat) : (s.setNextRow r).replySlot = s.replySlot := rfl
@[simp] theorem State.setNextRow_sending (s : State) (r : Nat) : (s.setNextRow r).sending = s.sending := rfl
@[simp] theorem State.setNextRow_noticeQueue (s : State) (r : Nat) : (s.setNextRow r).noticeQueue = s.noticeQueue := rfl
@[simp] theorem State.setNextRow_resetting (s : State) (r : Nat) : (s.setNextRow r).resetting = s.resetting := rfl
@[simp] theorem State.setNextRow_baud (s : State) (r : Nat) : (s.setNextRow r).baud = s.baud := rfl
@[simp] theorem State.setNextRow_inReset (s : State) (r : Nat) : (s.setNextRow r).inReset = s.inReset := rfl
@[simp] theorem State.setNextRow_setup (s : State) (r : Nat) : (s.setNextRow r).setup = s.setup := rfl
@[simp] theorem State.setNextRow_face (s : State) (r : Nat) : (s.setNextRow r).face = s.face := rfl
@[simp] theorem State.setNextRow_tickExp (s : State) (r : Nat) : (s.setNextRow r).tickExp = s.tickExp := rfl
@[simp] theorem State.setNextRow_members (s : State) (r : Nat) : (s.setNextRow r).members = s.members := rfl
@[simp] theorem State.setNextRow_windows (s : State) (r : Nat) : (s.setNextRow r).windows = s.windows := rfl
@[simp] theorem State.setNextRow_slots (s : State) (r : Nat) : (s.setNextRow r).slots = s.slots := rfl
@[simp] theorem State.setNextRow_nextRow (s : State) (r : Nat) : (s.setNextRow r).nextRow = r := rfl
@[simp] theorem State.setNextRow_strip0Released (s : State) (r : Nat) :
    (s.setNextRow r).strip0Released = s.strip0Released := rfl
@[simp] theorem State.setNextRow_stations (s : State) (r : Nat) : (s.setNextRow r).stations = s.stations := rfl
@[simp] theorem State.setNextRow_globalNotices (s : State) (r : Nat) :
    (s.setNextRow r).globalNotices = s.globalNotices := rfl
@[simp] theorem State.setNextRow_stopLine (s : State) (r : Nat) : (s.setNextRow r).stopLine = s.stopLine := rfl
@[simp] theorem State.setNextRow_tick (s : State) (r : Nat) : (s.setNextRow r).tick = s.tick := rfl
@[simp] theorem State.setNextRow_pending (s : State) (r : Nat) : (s.setNextRow r).pending = s.pending := rfl
@[simp] theorem State.setNextRow_st (s : State) (r : Nat) (p : StationId) : (s.setNextRow r).st p = s.st p := rfl

/-! ## `State.setReleased` -/

@[simp] theorem State.setReleased_receiver (s : State) (b : Bool) : (s.setReleased b).receiver = s.receiver := rfl
@[simp] theorem State.setReleased_recvList (s : State) (b : Bool) : (s.setReleased b).recvList = s.recvList := rfl
@[simp] theorem State.setReleased_replySlot (s : State) (b : Bool) : (s.setReleased b).replySlot = s.replySlot := rfl
@[simp] theorem State.setReleased_sending (s : State) (b : Bool) : (s.setReleased b).sending = s.sending := rfl
@[simp] theorem State.setReleased_noticeQueue (s : State) (b : Bool) :
    (s.setReleased b).noticeQueue = s.noticeQueue := rfl
@[simp] theorem State.setReleased_resetting (s : State) (b : Bool) : (s.setReleased b).resetting = s.resetting := rfl
@[simp] theorem State.setReleased_baud (s : State) (b : Bool) : (s.setReleased b).baud = s.baud := rfl
@[simp] theorem State.setReleased_inReset (s : State) (b : Bool) : (s.setReleased b).inReset = s.inReset := rfl
@[simp] theorem State.setReleased_setup (s : State) (b : Bool) : (s.setReleased b).setup = s.setup := rfl
@[simp] theorem State.setReleased_face (s : State) (b : Bool) : (s.setReleased b).face = s.face := rfl
@[simp] theorem State.setReleased_tickExp (s : State) (b : Bool) : (s.setReleased b).tickExp = s.tickExp := rfl
@[simp] theorem State.setReleased_members (s : State) (b : Bool) : (s.setReleased b).members = s.members := rfl
@[simp] theorem State.setReleased_windows (s : State) (b : Bool) : (s.setReleased b).windows = s.windows := rfl
@[simp] theorem State.setReleased_slots (s : State) (b : Bool) : (s.setReleased b).slots = s.slots := rfl
@[simp] theorem State.setReleased_nextRow (s : State) (b : Bool) : (s.setReleased b).nextRow = s.nextRow := rfl
@[simp] theorem State.setReleased_strip0Released (s : State) (b : Bool) : (s.setReleased b).strip0Released = b := rfl
@[simp] theorem State.setReleased_stations (s : State) (b : Bool) : (s.setReleased b).stations = s.stations := rfl
@[simp] theorem State.setReleased_globalNotices (s : State) (b : Bool) :
    (s.setReleased b).globalNotices = s.globalNotices := rfl
@[simp] theorem State.setReleased_stopLine (s : State) (b : Bool) : (s.setReleased b).stopLine = s.stopLine := rfl
@[simp] theorem State.setReleased_tick (s : State) (b : Bool) : (s.setReleased b).tick = s.tick := rfl
@[simp] theorem State.setReleased_pending (s : State) (b : Bool) : (s.setReleased b).pending = s.pending := rfl
@[simp] theorem State.setReleased_st (s : State) (b : Bool) (p : StationId) : (s.setReleased b).st p = s.st p := rfl

/-! ## `State.setStations` -/

@[simp] theorem State.setStations_receiver (s : State) (v : Vector Station 6) :
    (s.setStations v).receiver = s.receiver := rfl
@[simp] theorem State.setStations_recvList (s : State) (v : Vector Station 6) :
    (s.setStations v).recvList = s.recvList := rfl
@[simp] theorem State.setStations_replySlot (s : State) (v : Vector Station 6) :
    (s.setStations v).replySlot = s.replySlot := rfl
@[simp] theorem State.setStations_sending (s : State) (v : Vector Station 6) :
    (s.setStations v).sending = s.sending := rfl
@[simp] theorem State.setStations_noticeQueue (s : State) (v : Vector Station 6) :
    (s.setStations v).noticeQueue = s.noticeQueue := rfl
@[simp] theorem State.setStations_resetting (s : State) (v : Vector Station 6) :
    (s.setStations v).resetting = s.resetting := rfl
@[simp] theorem State.setStations_baud (s : State) (v : Vector Station 6) : (s.setStations v).baud = s.baud := rfl
@[simp] theorem State.setStations_inReset (s : State) (v : Vector Station 6) :
    (s.setStations v).inReset = s.inReset := rfl
@[simp] theorem State.setStations_setup (s : State) (v : Vector Station 6) : (s.setStations v).setup = s.setup := rfl
@[simp] theorem State.setStations_face (s : State) (v : Vector Station 6) : (s.setStations v).face = s.face := rfl
@[simp] theorem State.setStations_tickExp (s : State) (v : Vector Station 6) :
    (s.setStations v).tickExp = s.tickExp := rfl
@[simp] theorem State.setStations_members (s : State) (v : Vector Station 6) :
    (s.setStations v).members = s.members := rfl
@[simp] theorem State.setStations_windows (s : State) (v : Vector Station 6) :
    (s.setStations v).windows = s.windows := rfl
@[simp] theorem State.setStations_slots (s : State) (v : Vector Station 6) : (s.setStations v).slots = s.slots := rfl
@[simp] theorem State.setStations_nextRow (s : State) (v : Vector Station 6) :
    (s.setStations v).nextRow = s.nextRow := rfl
@[simp] theorem State.setStations_strip0Released (s : State) (v : Vector Station 6) :
    (s.setStations v).strip0Released = s.strip0Released := rfl
@[simp] theorem State.setStations_stations (s : State) (v : Vector Station 6) : (s.setStations v).stations = v := rfl
@[simp] theorem State.setStations_globalNotices (s : State) (v : Vector Station 6) :
    (s.setStations v).globalNotices = s.globalNotices := rfl
@[simp] theorem State.setStations_stopLine (s : State) (v : Vector Station 6) :
    (s.setStations v).stopLine = s.stopLine := rfl
@[simp] theorem State.setStations_tick (s : State) (v : Vector Station 6) : (s.setStations v).tick = s.tick := rfl
@[simp] theorem State.setStations_pending (s : State) (v : Vector Station 6) :
    (s.setStations v).pending = s.pending := rfl

/-! ## `State.setGlobal` -/

@[simp] theorem State.setGlobal_receiver (s : State) (n : NoticeSets) : (s.setGlobal n).receiver = s.receiver := rfl
@[simp] theorem State.setGlobal_recvList (s : State) (n : NoticeSets) : (s.setGlobal n).recvList = s.recvList := rfl
@[simp] theorem State.setGlobal_replySlot (s : State) (n : NoticeSets) : (s.setGlobal n).replySlot = s.replySlot := rfl
@[simp] theorem State.setGlobal_sending (s : State) (n : NoticeSets) : (s.setGlobal n).sending = s.sending := rfl
@[simp] theorem State.setGlobal_noticeQueue (s : State) (n : NoticeSets) :
    (s.setGlobal n).noticeQueue = s.noticeQueue := rfl
@[simp] theorem State.setGlobal_resetting (s : State) (n : NoticeSets) : (s.setGlobal n).resetting = s.resetting := rfl
@[simp] theorem State.setGlobal_baud (s : State) (n : NoticeSets) : (s.setGlobal n).baud = s.baud := rfl
@[simp] theorem State.setGlobal_inReset (s : State) (n : NoticeSets) : (s.setGlobal n).inReset = s.inReset := rfl
@[simp] theorem State.setGlobal_setup (s : State) (n : NoticeSets) : (s.setGlobal n).setup = s.setup := rfl
@[simp] theorem State.setGlobal_face (s : State) (n : NoticeSets) : (s.setGlobal n).face = s.face := rfl
@[simp] theorem State.setGlobal_tickExp (s : State) (n : NoticeSets) : (s.setGlobal n).tickExp = s.tickExp := rfl
@[simp] theorem State.setGlobal_members (s : State) (n : NoticeSets) : (s.setGlobal n).members = s.members := rfl
@[simp] theorem State.setGlobal_windows (s : State) (n : NoticeSets) : (s.setGlobal n).windows = s.windows := rfl
@[simp] theorem State.setGlobal_slots (s : State) (n : NoticeSets) : (s.setGlobal n).slots = s.slots := rfl
@[simp] theorem State.setGlobal_nextRow (s : State) (n : NoticeSets) : (s.setGlobal n).nextRow = s.nextRow := rfl
@[simp] theorem State.setGlobal_strip0Released (s : State) (n : NoticeSets) :
    (s.setGlobal n).strip0Released = s.strip0Released := rfl
@[simp] theorem State.setGlobal_stations (s : State) (n : NoticeSets) : (s.setGlobal n).stations = s.stations := rfl
@[simp] theorem State.setGlobal_globalNotices (s : State) (n : NoticeSets) : (s.setGlobal n).globalNotices = n := rfl
@[simp] theorem State.setGlobal_stopLine (s : State) (n : NoticeSets) : (s.setGlobal n).stopLine = s.stopLine := rfl
@[simp] theorem State.setGlobal_tick (s : State) (n : NoticeSets) : (s.setGlobal n).tick = s.tick := rfl
@[simp] theorem State.setGlobal_pending (s : State) (n : NoticeSets) : (s.setGlobal n).pending = s.pending := rfl
@[simp] theorem State.setGlobal_st (s : State) (n : NoticeSets) (p : StationId) : (s.setGlobal n).st p = s.st p := rfl

/-! ## `State.setStopLine` -/

@[simp] theorem State.setStopLine_receiver (s : State) (b : Bool) : (s.setStopLine b).receiver = s.receiver := rfl
@[simp] theorem State.setStopLine_recvList (s : State) (b : Bool) : (s.setStopLine b).recvList = s.recvList := rfl
@[simp] theorem State.setStopLine_replySlot (s : State) (b : Bool) : (s.setStopLine b).replySlot = s.replySlot := rfl
@[simp] theorem State.setStopLine_sending (s : State) (b : Bool) : (s.setStopLine b).sending = s.sending := rfl
@[simp] theorem State.setStopLine_noticeQueue (s : State) (b : Bool) :
    (s.setStopLine b).noticeQueue = s.noticeQueue := rfl
@[simp] theorem State.setStopLine_resetting (s : State) (b : Bool) : (s.setStopLine b).resetting = s.resetting := rfl
@[simp] theorem State.setStopLine_baud (s : State) (b : Bool) : (s.setStopLine b).baud = s.baud := rfl
@[simp] theorem State.setStopLine_inReset (s : State) (b : Bool) : (s.setStopLine b).inReset = s.inReset := rfl
@[simp] theorem State.setStopLine_setup (s : State) (b : Bool) : (s.setStopLine b).setup = s.setup := rfl
@[simp] theorem State.setStopLine_face (s : State) (b : Bool) : (s.setStopLine b).face = s.face := rfl
@[simp] theorem State.setStopLine_tickExp (s : State) (b : Bool) : (s.setStopLine b).tickExp = s.tickExp := rfl
@[simp] theorem State.setStopLine_members (s : State) (b : Bool) : (s.setStopLine b).members = s.members := rfl
@[simp] theorem State.setStopLine_windows (s : State) (b : Bool) : (s.setStopLine b).windows = s.windows := rfl
@[simp] theorem State.setStopLine_slots (s : State) (b : Bool) : (s.setStopLine b).slots = s.slots := rfl
@[simp] theorem State.setStopLine_nextRow (s : State) (b : Bool) : (s.setStopLine b).nextRow = s.nextRow := rfl
@[simp] theorem State.setStopLine_strip0Released (s : State) (b : Bool) :
    (s.setStopLine b).strip0Released = s.strip0Released := rfl
@[simp] theorem State.setStopLine_stations (s : State) (b : Bool) : (s.setStopLine b).stations = s.stations := rfl
@[simp] theorem State.setStopLine_globalNotices (s : State) (b : Bool) :
    (s.setStopLine b).globalNotices = s.globalNotices := rfl
@[simp] theorem State.setStopLine_stopLine (s : State) (b : Bool) : (s.setStopLine b).stopLine = b := rfl
@[simp] theorem State.setStopLine_tick (s : State) (b : Bool) : (s.setStopLine b).tick = s.tick := rfl
@[simp] theorem State.setStopLine_pending (s : State) (b : Bool) : (s.setStopLine b).pending = s.pending := rfl
@[simp] theorem State.setStopLine_st (s : State) (b : Bool) (p : StationId) : (s.setStopLine b).st p = s.st p := rfl

/-! ## `State.setTick` -/

@[simp] theorem State.setTick_receiver (s : State) (t : Nat) : (s.setTick t).receiver = s.receiver := rfl
@[simp] theorem State.setTick_recvList (s : State) (t : Nat) : (s.setTick t).recvList = s.recvList := rfl
@[simp] theorem State.setTick_replySlot (s : State) (t : Nat) : (s.setTick t).replySlot = s.replySlot := rfl
@[simp] theorem State.setTick_sending (s : State) (t : Nat) : (s.setTick t).sending = s.sending := rfl
@[simp] theorem State.setTick_noticeQueue (s : State) (t : Nat) : (s.setTick t).noticeQueue = s.noticeQueue := rfl
@[simp] theorem State.setTick_resetting (s : State) (t : Nat) : (s.setTick t).resetting = s.resetting := rfl
@[simp] theorem State.setTick_baud (s : State) (t : Nat) : (s.setTick t).baud = s.baud := rfl
@[simp] theorem State.setTick_inReset (s : State) (t : Nat) : (s.setTick t).inReset = s.inReset := rfl
@[simp] theorem State.setTick_setup (s : State) (t : Nat) : (s.setTick t).setup = s.setup := rfl
@[simp] theorem State.setTick_face (s : State) (t : Nat) : (s.setTick t).face = s.face := rfl
@[simp] theorem State.setTick_tickExp (s : State) (t : Nat) : (s.setTick t).tickExp = s.tickExp := rfl
@[simp] theorem State.setTick_members (s : State) (t : Nat) : (s.setTick t).members = s.members := rfl
@[simp] theorem State.setTick_windows (s : State) (t : Nat) : (s.setTick t).windows = s.windows := rfl
@[simp] theorem State.setTick_slots (s : State) (t : Nat) : (s.setTick t).slots = s.slots := rfl
@[simp] theorem State.setTick_nextRow (s : State) (t : Nat) : (s.setTick t).nextRow = s.nextRow := rfl
@[simp] theorem State.setTick_strip0Released (s : State) (t : Nat) :
    (s.setTick t).strip0Released = s.strip0Released := rfl
@[simp] theorem State.setTick_stations (s : State) (t : Nat) : (s.setTick t).stations = s.stations := rfl
@[simp] theorem State.setTick_globalNotices (s : State) (t : Nat) : (s.setTick t).globalNotices = s.globalNotices := rfl
@[simp] theorem State.setTick_stopLine (s : State) (t : Nat) : (s.setTick t).stopLine = s.stopLine := rfl
@[simp] theorem State.setTick_tick (s : State) (t : Nat) : (s.setTick t).tick = t := rfl
@[simp] theorem State.setTick_pending (s : State) (t : Nat) : (s.setTick t).pending = s.pending := rfl
@[simp] theorem State.setTick_st (s : State) (t : Nat) (p : StationId) : (s.setTick t).st p = s.st p := rfl

/-! ## `State.setPending` -/

@[simp] theorem State.setPending_receiver (s : State) (q : List Instr) : (s.setPending q).receiver = s.receiver := rfl
@[simp] theorem State.setPending_recvList (s : State) (q : List Instr) : (s.setPending q).recvList = s.recvList := rfl
@[simp] theorem State.setPending_replySlot (s : State) (q : List Instr) :
    (s.setPending q).replySlot = s.replySlot := rfl
@[simp] theorem State.setPending_sending (s : State) (q : List Instr) : (s.setPending q).sending = s.sending := rfl
@[simp] theorem State.setPending_noticeQueue (s : State) (q : List Instr) :
    (s.setPending q).noticeQueue = s.noticeQueue := rfl
@[simp] theorem State.setPending_resetting (s : State) (q : List Instr) :
    (s.setPending q).resetting = s.resetting := rfl
@[simp] theorem State.setPending_baud (s : State) (q : List Instr) : (s.setPending q).baud = s.baud := rfl
@[simp] theorem State.setPending_inReset (s : State) (q : List Instr) : (s.setPending q).inReset = s.inReset := rfl
@[simp] theorem State.setPending_setup (s : State) (q : List Instr) : (s.setPending q).setup = s.setup := rfl
@[simp] theorem State.setPending_face (s : State) (q : List Instr) : (s.setPending q).face = s.face := rfl
@[simp] theorem State.setPending_tickExp (s : State) (q : List Instr) : (s.setPending q).tickExp = s.tickExp := rfl
@[simp] theorem State.setPending_members (s : State) (q : List Instr) : (s.setPending q).members = s.members := rfl
@[simp] theorem State.setPending_windows (s : State) (q : List Instr) : (s.setPending q).windows = s.windows := rfl
@[simp] theorem State.setPending_slots (s : State) (q : List Instr) : (s.setPending q).slots = s.slots := rfl
@[simp] theorem State.setPending_nextRow (s : State) (q : List Instr) : (s.setPending q).nextRow = s.nextRow := rfl
@[simp] theorem State.setPending_strip0Released (s : State) (q : List Instr) :
    (s.setPending q).strip0Released = s.strip0Released := rfl
@[simp] theorem State.setPending_stations (s : State) (q : List Instr) : (s.setPending q).stations = s.stations := rfl
@[simp] theorem State.setPending_globalNotices (s : State) (q : List Instr) :
    (s.setPending q).globalNotices = s.globalNotices := rfl
@[simp] theorem State.setPending_stopLine (s : State) (q : List Instr) : (s.setPending q).stopLine = s.stopLine := rfl
@[simp] theorem State.setPending_tick (s : State) (q : List Instr) : (s.setPending q).tick = s.tick := rfl
@[simp] theorem State.setPending_pending (s : State) (q : List Instr) : (s.setPending q).pending = q := rfl
@[simp] theorem State.setPending_st (s : State) (q : List Instr) (p : StationId) : (s.setPending q).st p = s.st p := rfl

/-! ## `State.setFace` -/

@[simp] theorem State.setFace_receiver (s : State) (f : Option Face) (k : Nat) :
    (s.setFace f k).receiver = s.receiver := rfl
@[simp] theorem State.setFace_recvList (s : State) (f : Option Face) (k : Nat) :
    (s.setFace f k).recvList = s.recvList := rfl
@[simp] theorem State.setFace_replySlot (s : State) (f : Option Face) (k : Nat) :
    (s.setFace f k).replySlot = s.replySlot := rfl
@[simp] theorem State.setFace_sending (s : State) (f : Option Face) (k : Nat) :
    (s.setFace f k).sending = s.sending := rfl
@[simp] theorem State.setFace_noticeQueue (s : State) (f : Option Face) (k : Nat) :
    (s.setFace f k).noticeQueue = s.noticeQueue := rfl
@[simp] theorem State.setFace_resetting (s : State) (f : Option Face) (k : Nat) :
    (s.setFace f k).resetting = s.resetting := rfl
@[simp] theorem State.setFace_baud (s : State) (f : Option Face) (k : Nat) : (s.setFace f k).baud = s.baud := rfl
@[simp] theorem State.setFace_inReset (s : State) (f : Option Face) (k : Nat) :
    (s.setFace f k).inReset = s.inReset := rfl
@[simp] theorem State.setFace_setup (s : State) (f : Option Face) (k : Nat) : (s.setFace f k).setup = s.setup := rfl
@[simp] theorem State.setFace_face (s : State) (f : Option Face) (k : Nat) : (s.setFace f k).face = f := rfl
@[simp] theorem State.setFace_tickExp (s : State) (f : Option Face) (k : Nat) : (s.setFace f k).tickExp = k := rfl
@[simp] theorem State.setFace_members (s : State) (f : Option Face) (k : Nat) :
    (s.setFace f k).members = s.members := rfl
@[simp] theorem State.setFace_windows (s : State) (f : Option Face) (k : Nat) :
    (s.setFace f k).windows = s.windows := rfl
@[simp] theorem State.setFace_slots (s : State) (f : Option Face) (k : Nat) : (s.setFace f k).slots = s.slots := rfl
@[simp] theorem State.setFace_nextRow (s : State) (f : Option Face) (k : Nat) :
    (s.setFace f k).nextRow = s.nextRow := rfl
@[simp] theorem State.setFace_strip0Released (s : State) (f : Option Face) (k : Nat) :
    (s.setFace f k).strip0Released = s.strip0Released := rfl
@[simp] theorem State.setFace_stations (s : State) (f : Option Face) (k : Nat) :
    (s.setFace f k).stations = s.stations := rfl
@[simp] theorem State.setFace_globalNotices (s : State) (f : Option Face) (k : Nat) :
    (s.setFace f k).globalNotices = s.globalNotices := rfl
@[simp] theorem State.setFace_stopLine (s : State) (f : Option Face) (k : Nat) :
    (s.setFace f k).stopLine = s.stopLine := rfl
@[simp] theorem State.setFace_tick (s : State) (f : Option Face) (k : Nat) : (s.setFace f k).tick = s.tick := rfl
@[simp] theorem State.setFace_pending (s : State) (f : Option Face) (k : Nat) :
    (s.setFace f k).pending = s.pending := rfl
@[simp] theorem State.setFace_st (s : State) (f : Option Face) (k : Nat) (p : StationId) :
    (s.setFace f k).st p = s.st p := rfl

/-! ## `State.modSt` -/

@[simp] theorem State.modSt_receiver (s : State) (p : StationId) (f : Station → Station) :
    (s.modSt p f).receiver = s.receiver := rfl
@[simp] theorem State.modSt_recvList (s : State) (p : StationId) (f : Station → Station) :
    (s.modSt p f).recvList = s.recvList := rfl
@[simp] theorem State.modSt_replySlot (s : State) (p : StationId) (f : Station → Station) :
    (s.modSt p f).replySlot = s.replySlot := rfl
@[simp] theorem State.modSt_sending (s : State) (p : StationId) (f : Station → Station) :
    (s.modSt p f).sending = s.sending := rfl
@[simp] theorem State.modSt_noticeQueue (s : State) (p : StationId) (f : Station → Station) :
    (s.modSt p f).noticeQueue = s.noticeQueue := rfl
@[simp] theorem State.modSt_resetting (s : State) (p : StationId) (f : Station → Station) :
    (s.modSt p f).resetting = s.resetting := rfl
@[simp] theorem State.modSt_baud (s : State) (p : StationId) (f : Station → Station) :
    (s.modSt p f).baud = s.baud := rfl
@[simp] theorem State.modSt_inReset (s : State) (p : StationId) (f : Station → Station) :
    (s.modSt p f).inReset = s.inReset := rfl
@[simp] theorem State.modSt_setup (s : State) (p : StationId) (f : Station → Station) :
    (s.modSt p f).setup = s.setup := rfl
@[simp] theorem State.modSt_face (s : State) (p : StationId) (f : Station → Station) :
    (s.modSt p f).face = s.face := rfl
@[simp] theorem State.modSt_tickExp (s : State) (p : StationId) (f : Station → Station) :
    (s.modSt p f).tickExp = s.tickExp := rfl
@[simp] theorem State.modSt_members (s : State) (p : StationId) (f : Station → Station) :
    (s.modSt p f).members = s.members := rfl
@[simp] theorem State.modSt_windows (s : State) (p : StationId) (f : Station → Station) :
    (s.modSt p f).windows = s.windows := rfl
@[simp] theorem State.modSt_slots (s : State) (p : StationId) (f : Station → Station) :
    (s.modSt p f).slots = s.slots := rfl
@[simp] theorem State.modSt_nextRow (s : State) (p : StationId) (f : Station → Station) :
    (s.modSt p f).nextRow = s.nextRow := rfl
@[simp] theorem State.modSt_strip0Released (s : State) (p : StationId) (f : Station → Station) :
    (s.modSt p f).strip0Released = s.strip0Released := rfl
@[simp] theorem State.modSt_globalNotices (s : State) (p : StationId) (f : Station → Station) :
    (s.modSt p f).globalNotices = s.globalNotices := rfl
@[simp] theorem State.modSt_stopLine (s : State) (p : StationId) (f : Station → Station) :
    (s.modSt p f).stopLine = s.stopLine := rfl
@[simp] theorem State.modSt_tick (s : State) (p : StationId) (f : Station → Station) :
    (s.modSt p f).tick = s.tick := rfl
@[simp] theorem State.modSt_pending (s : State) (p : StationId) (f : Station → Station) :
    (s.modSt p f).pending = s.pending := rfl

/-! ## `issue` -/

@[simp] theorem issue_receiver (p : StationId) (c : DriveCmd) (s : State) : (issue p c s).receiver = s.receiver := rfl
@[simp] theorem issue_recvList (p : StationId) (c : DriveCmd) (s : State) : (issue p c s).recvList = s.recvList := rfl
@[simp] theorem issue_replySlot (p : StationId) (c : DriveCmd) (s : State) :
    (issue p c s).replySlot = s.replySlot := rfl
@[simp] theorem issue_sending (p : StationId) (c : DriveCmd) (s : State) : (issue p c s).sending = s.sending := rfl
@[simp] theorem issue_noticeQueue (p : StationId) (c : DriveCmd) (s : State) :
    (issue p c s).noticeQueue = s.noticeQueue := rfl
@[simp] theorem issue_resetting (p : StationId) (c : DriveCmd) (s : State) :
    (issue p c s).resetting = s.resetting := rfl
@[simp] theorem issue_baud (p : StationId) (c : DriveCmd) (s : State) : (issue p c s).baud = s.baud := rfl
@[simp] theorem issue_inReset (p : StationId) (c : DriveCmd) (s : State) : (issue p c s).inReset = s.inReset := rfl
@[simp] theorem issue_setup (p : StationId) (c : DriveCmd) (s : State) : (issue p c s).setup = s.setup := rfl
@[simp] theorem issue_face (p : StationId) (c : DriveCmd) (s : State) : (issue p c s).face = s.face := rfl
@[simp] theorem issue_tickExp (p : StationId) (c : DriveCmd) (s : State) : (issue p c s).tickExp = s.tickExp := rfl
@[simp] theorem issue_members (p : StationId) (c : DriveCmd) (s : State) : (issue p c s).members = s.members := rfl
@[simp] theorem issue_windows (p : StationId) (c : DriveCmd) (s : State) : (issue p c s).windows = s.windows := rfl
@[simp] theorem issue_slots (p : StationId) (c : DriveCmd) (s : State) : (issue p c s).slots = s.slots := rfl
@[simp] theorem issue_nextRow (p : StationId) (c : DriveCmd) (s : State) : (issue p c s).nextRow = s.nextRow := rfl
@[simp] theorem issue_strip0Released (p : StationId) (c : DriveCmd) (s : State) :
    (issue p c s).strip0Released = s.strip0Released := rfl
@[simp] theorem issue_globalNotices (p : StationId) (c : DriveCmd) (s : State) :
    (issue p c s).globalNotices = s.globalNotices := rfl
@[simp] theorem issue_stopLine (p : StationId) (c : DriveCmd) (s : State) : (issue p c s).stopLine = s.stopLine := rfl
@[simp] theorem issue_tick (p : StationId) (c : DriveCmd) (s : State) : (issue p c s).tick = s.tick := rfl
@[simp] theorem issue_pending (p : StationId) (c : DriveCmd) (s : State) : (issue p c s).pending = s.pending := rfl

/-! ## `State.setNoticeSets` -/

@[simp] theorem State.setNoticeSets_receiver (s : State) (src : Source) (n : NoticeSets) :
    (s.setNoticeSets src n).receiver = s.receiver := by cases src <;> rfl
@[simp] theorem State.setNoticeSets_recvList (s : State) (src : Source) (n : NoticeSets) :
    (s.setNoticeSets src n).recvList = s.recvList := by cases src <;> rfl
@[simp] theorem State.setNoticeSets_replySlot (s : State) (src : Source) (n : NoticeSets) :
    (s.setNoticeSets src n).replySlot = s.replySlot := by cases src <;> rfl
@[simp] theorem State.setNoticeSets_sending (s : State) (src : Source) (n : NoticeSets) :
    (s.setNoticeSets src n).sending = s.sending := by cases src <;> rfl
@[simp] theorem State.setNoticeSets_noticeQueue (s : State) (src : Source) (n : NoticeSets) :
    (s.setNoticeSets src n).noticeQueue = s.noticeQueue := by cases src <;> rfl
@[simp] theorem State.setNoticeSets_resetting (s : State) (src : Source) (n : NoticeSets) :
    (s.setNoticeSets src n).resetting = s.resetting := by cases src <;> rfl
@[simp] theorem State.setNoticeSets_baud (s : State) (src : Source) (n : NoticeSets) :
    (s.setNoticeSets src n).baud = s.baud := by cases src <;> rfl
@[simp] theorem State.setNoticeSets_inReset (s : State) (src : Source) (n : NoticeSets) :
    (s.setNoticeSets src n).inReset = s.inReset := by cases src <;> rfl
@[simp] theorem State.setNoticeSets_setup (s : State) (src : Source) (n : NoticeSets) :
    (s.setNoticeSets src n).setup = s.setup := by cases src <;> rfl
@[simp] theorem State.setNoticeSets_face (s : State) (src : Source) (n : NoticeSets) :
    (s.setNoticeSets src n).face = s.face := by cases src <;> rfl
@[simp] theorem State.setNoticeSets_tickExp (s : State) (src : Source) (n : NoticeSets) :
    (s.setNoticeSets src n).tickExp = s.tickExp := by cases src <;> rfl
@[simp] theorem State.setNoticeSets_members (s : State) (src : Source) (n : NoticeSets) :
    (s.setNoticeSets src n).members = s.members := by cases src <;> rfl
@[simp] theorem State.setNoticeSets_windows (s : State) (src : Source) (n : NoticeSets) :
    (s.setNoticeSets src n).windows = s.windows := by cases src <;> rfl
@[simp] theorem State.setNoticeSets_slots (s : State) (src : Source) (n : NoticeSets) :
    (s.setNoticeSets src n).slots = s.slots := by cases src <;> rfl
@[simp] theorem State.setNoticeSets_nextRow (s : State) (src : Source) (n : NoticeSets) :
    (s.setNoticeSets src n).nextRow = s.nextRow := by cases src <;> rfl
@[simp] theorem State.setNoticeSets_strip0Released (s : State) (src : Source) (n : NoticeSets) :
    (s.setNoticeSets src n).strip0Released = s.strip0Released := by cases src <;> rfl
@[simp] theorem State.setNoticeSets_stopLine (s : State) (src : Source) (n : NoticeSets) :
    (s.setNoticeSets src n).stopLine = s.stopLine := by cases src <;> rfl
@[simp] theorem State.setNoticeSets_tick (s : State) (src : Source) (n : NoticeSets) :
    (s.setNoticeSets src n).tick = s.tick := by cases src <;> rfl
@[simp] theorem State.setNoticeSets_pending (s : State) (src : Source) (n : NoticeSets) :
    (s.setNoticeSets src n).pending = s.pending := by cases src <;> rfl

/-! ## `State.queueSource` -/

@[simp] theorem State.queueSource_receiver (s : State) (src : Source) : (s.queueSource src).receiver = s.receiver := by
  unfold State.queueSource; split <;> rfl
@[simp] theorem State.queueSource_recvList (s : State) (src : Source) : (s.queueSource src).recvList = s.recvList := by
  unfold State.queueSource; split <;> rfl
@[simp] theorem State.queueSource_replySlot (s : State) (src : Source) : (s.queueSource src).replySlot = s.replySlot := by
  unfold State.queueSource; split <;> rfl
@[simp] theorem State.queueSource_sending (s : State) (src : Source) : (s.queueSource src).sending = s.sending := by
  unfold State.queueSource; split <;> rfl
@[simp] theorem State.queueSource_resetting (s : State) (src : Source) : (s.queueSource src).resetting = s.resetting := by
  unfold State.queueSource; split <;> rfl
@[simp] theorem State.queueSource_baud (s : State) (src : Source) : (s.queueSource src).baud = s.baud := by
  unfold State.queueSource; split <;> rfl
@[simp] theorem State.queueSource_inReset (s : State) (src : Source) : (s.queueSource src).inReset = s.inReset := by
  unfold State.queueSource; split <;> rfl
@[simp] theorem State.queueSource_setup (s : State) (src : Source) : (s.queueSource src).setup = s.setup := by
  unfold State.queueSource; split <;> rfl
@[simp] theorem State.queueSource_face (s : State) (src : Source) : (s.queueSource src).face = s.face := by
  unfold State.queueSource; split <;> rfl
@[simp] theorem State.queueSource_tickExp (s : State) (src : Source) : (s.queueSource src).tickExp = s.tickExp := by
  unfold State.queueSource; split <;> rfl
@[simp] theorem State.queueSource_members (s : State) (src : Source) : (s.queueSource src).members = s.members := by
  unfold State.queueSource; split <;> rfl
@[simp] theorem State.queueSource_windows (s : State) (src : Source) : (s.queueSource src).windows = s.windows := by
  unfold State.queueSource; split <;> rfl
@[simp] theorem State.queueSource_slots (s : State) (src : Source) : (s.queueSource src).slots = s.slots := by
  unfold State.queueSource; split <;> rfl
@[simp] theorem State.queueSource_nextRow (s : State) (src : Source) : (s.queueSource src).nextRow = s.nextRow := by
  unfold State.queueSource; split <;> rfl
@[simp] theorem State.queueSource_strip0Released (s : State) (src : Source) : (s.queueSource src).strip0Released = s.strip0Released := by
  unfold State.queueSource; split <;> rfl
@[simp] theorem State.queueSource_stations (s : State) (src : Source) : (s.queueSource src).stations = s.stations := by
  unfold State.queueSource; split <;> rfl
@[simp] theorem State.queueSource_globalNotices (s : State) (src : Source) : (s.queueSource src).globalNotices = s.globalNotices := by
  unfold State.queueSource; split <;> rfl
@[simp] theorem State.queueSource_stopLine (s : State) (src : Source) : (s.queueSource src).stopLine = s.stopLine := by
  unfold State.queueSource; split <;> rfl
@[simp] theorem State.queueSource_tick (s : State) (src : Source) : (s.queueSource src).tick = s.tick := by
  unfold State.queueSource; split <;> rfl
@[simp] theorem State.queueSource_pending (s : State) (src : Source) : (s.queueSource src).pending = s.pending := by
  unfold State.queueSource; split <;> rfl

/-! ## `setFlag` -/

@[simp] theorem setFlag_receiver (src : Source) (flag : FlagSet) (s : State) :
    (setFlag src flag s).receiver = s.receiver := by
  simp only [setFlag]; split_ifs <;> simp
@[simp] theorem setFlag_recvList (src : Source) (flag : FlagSet) (s : State) :
    (setFlag src flag s).recvList = s.recvList := by
  simp only [setFlag]; split_ifs <;> simp
@[simp] theorem setFlag_replySlot (src : Source) (flag : FlagSet) (s : State) :
    (setFlag src flag s).replySlot = s.replySlot := by
  simp only [setFlag]; split_ifs <;> simp
@[simp] theorem setFlag_sending (src : Source) (flag : FlagSet) (s : State) :
    (setFlag src flag s).sending = s.sending := by
  simp only [setFlag]; split_ifs <;> simp
@[simp] theorem setFlag_resetting (src : Source) (flag : FlagSet) (s : State) :
    (setFlag src flag s).resetting = s.resetting := by
  simp only [setFlag]; split_ifs <;> simp
@[simp] theorem setFlag_baud (src : Source) (flag : FlagSet) (s : State) :
    (setFlag src flag s).baud = s.baud := by
  simp only [setFlag]; split_ifs <;> simp
@[simp] theorem setFlag_inReset (src : Source) (flag : FlagSet) (s : State) :
    (setFlag src flag s).inReset = s.inReset := by
  simp only [setFlag]; split_ifs <;> simp
@[simp] theorem setFlag_setup (src : Source) (flag : FlagSet) (s : State) :
    (setFlag src flag s).setup = s.setup := by
  simp only [setFlag]; split_ifs <;> simp
@[simp] theorem setFlag_face (src : Source) (flag : FlagSet) (s : State) :
    (setFlag src flag s).face = s.face := by
  simp only [setFlag]; split_ifs <;> simp
@[simp] theorem setFlag_tickExp (src : Source) (flag : FlagSet) (s : State) :
    (setFlag src flag s).tickExp = s.tickExp := by
  simp only [setFlag]; split_ifs <;> simp
@[simp] theorem setFlag_members (src : Source) (flag : FlagSet) (s : State) :
    (setFlag src flag s).members = s.members := by
  simp only [setFlag]; split_ifs <;> simp
@[simp] theorem setFlag_windows (src : Source) (flag : FlagSet) (s : State) :
    (setFlag src flag s).windows = s.windows := by
  simp only [setFlag]; split_ifs <;> simp
@[simp] theorem setFlag_slots (src : Source) (flag : FlagSet) (s : State) :
    (setFlag src flag s).slots = s.slots := by
  simp only [setFlag]; split_ifs <;> simp
@[simp] theorem setFlag_nextRow (src : Source) (flag : FlagSet) (s : State) :
    (setFlag src flag s).nextRow = s.nextRow := by
  simp only [setFlag]; split_ifs <;> simp
@[simp] theorem setFlag_strip0Released (src : Source) (flag : FlagSet) (s : State) :
    (setFlag src flag s).strip0Released = s.strip0Released := by
  simp only [setFlag]; split_ifs <;> simp
@[simp] theorem setFlag_stopLine (src : Source) (flag : FlagSet) (s : State) :
    (setFlag src flag s).stopLine = s.stopLine := by
  simp only [setFlag]; split_ifs <;> simp
@[simp] theorem setFlag_tick (src : Source) (flag : FlagSet) (s : State) :
    (setFlag src flag s).tick = s.tick := by
  simp only [setFlag]; split_ifs <;> simp
@[simp] theorem setFlag_pending (src : Source) (flag : FlagSet) (s : State) :
    (setFlag src flag s).pending = s.pending := by
  simp only [setFlag]; split_ifs <;> simp

/-! ## A field replaced twice -/

@[simp] theorem State.setReceiver_setReceiver (s : State) (a b : Receiver) :
    (s.setReceiver a).setReceiver b = s.setReceiver b := rfl
@[simp] theorem State.setList_setList (s : State) (a b : List Entry) : (s.setList a).setList b = s.setList b := rfl
@[simp] theorem State.setReply_setReply (s : State) (a b : Option Frame) :
    (s.setReply a).setReply b = s.setReply b := rfl
@[simp] theorem State.setSending_setSending (s : State) (a b : Option (List Byte)) :
    (s.setSending a).setSending b = s.setSending b := rfl
@[simp] theorem State.setQueue_setQueue (s : State) (a b : List Source) :
    (s.setQueue a).setQueue b = s.setQueue b := rfl
@[simp] theorem State.setResetting_setResetting (s : State) (a b : Bool) :
    (s.setResetting a).setResetting b = s.setResetting b := rfl
@[simp] theorem State.setSetup_setSetup (s : State) (a b : SetupState) : (s.setSetup a).setSetup b = s.setSetup b := rfl
@[simp] theorem State.setMembers_setMembers (s : State) (a b : List StationId) :
    (s.setMembers a).setMembers b = s.setMembers b := rfl
@[simp] theorem State.setWindows_setWindows (s : State) (a b : Vector (Option Window) 4) :
    (s.setWindows a).setWindows b = s.setWindows b := rfl
@[simp] theorem State.setSlots_setSlots (s : State) (a b : Vector Slot 2) :
    (s.setSlots a).setSlots b = s.setSlots b := rfl
@[simp] theorem State.setNextRow_setNextRow (s : State) (a b : Nat) :
    (s.setNextRow a).setNextRow b = s.setNextRow b := rfl
@[simp] theorem State.setReleased_setReleased (s : State) (a b : Bool) :
    (s.setReleased a).setReleased b = s.setReleased b := rfl
@[simp] theorem State.setStations_setStations (s : State) (a b : Vector Station 6) :
    (s.setStations a).setStations b = s.setStations b := rfl
@[simp] theorem State.setGlobal_setGlobal (s : State) (a b : NoticeSets) :
    (s.setGlobal a).setGlobal b = s.setGlobal b := rfl
@[simp] theorem State.setStopLine_setStopLine (s : State) (a b : Bool) :
    (s.setStopLine a).setStopLine b = s.setStopLine b := rfl
@[simp] theorem State.setTick_setTick (s : State) (a b : Nat) : (s.setTick a).setTick b = s.setTick b := rfl
@[simp] theorem State.setPending_setPending (s : State) (a b : List Instr) :
    (s.setPending a).setPending b = s.setPending b := rfl

/-! ## Stations -/

@[simp] theorem State.modSt_st_self (s : State) (p : StationId) (f : Station → Station) :
    (s.modSt p f).st p = f (s.st p) := by
  simp [State.modSt, State.st]

theorem State.modSt_st (s : State) (p q : StationId) (f : Station → Station) :
    (s.modSt p f).st q = if p = q then f (s.st p) else s.st q := by
  simp [State.modSt, State.st, Vector.getElem_set, Fin.ext_iff]

@[simp] theorem State.modSt_st_ne (s : State) {p q : StationId} (f : Station → Station) (h : p ≠ q) :
    (s.modSt p f).st q = s.st q := by
  rw [State.modSt_st, if_neg h]

@[simp] theorem State.modSt_modSt (s : State) (p : StationId) (f g : Station → Station) :
    (s.modSt p f).modSt p g = s.modSt p (fun x => g (f x)) := by
  simp [State.modSt]

@[simp] theorem State.queueSource_st (s : State) (src : Source) (q : StationId) :
    (s.queueSource src).st q = s.st q := by
  simp [State.st]

/-- Every station is in the list that the operations go through. -/
theorem mem_allStations (p : StationId) : p ∈ allStations := by revert p; decide

/-- Two states with the same stations and the same other fields are the same. -/
theorem State.st_ext {s t : State} (h : ∀ p, s.st p = t.st p) : s.stations = t.stations :=
  Vector.ext (fun i hi => h ⟨i, hi⟩)

/-- Setting a flag of a station's source, or of source 7, changes only notice sets and the queue (R149). -/
theorem setFlag_st (src : Source) (flag : FlagSet) (s : State) (q : StationId) :
    ∃ n, (setFlag src flag s).st q = { s.st q with notices := n } := by
  unfold setFlag
  have base : ∀ m : NoticeSets, ∃ n, (s.setNoticeSets src m).st q = { s.st q with notices := n } := by
    intro m
    cases src with
    | global => exact ⟨(s.st q).notices, rfl⟩
    | station p =>
      by_cases h : p = q
      · subst h; exact ⟨m, by simp [State.setNoticeSets, State.st]⟩
      · refine ⟨(s.st q).notices, ?_⟩
        have hv : (p : Nat) ≠ (q : Nat) := fun e => h (Fin.ext e)
        simp [State.setNoticeSets, State.st, hv]
  simp only
  split_ifs
  · exact ⟨(s.st q).notices, rfl⟩
  · simpa using base _
  · exact base _

end Sys2Proof.Machine
end

