-- ==== Sys2Proof/Laws/Link.lean ====
section
/-! SUPPORT. What handling the head of the receive list can do (R159, R160), and what the receiver and the transmitter
do to the rest of the part. -/

namespace Sys2Proof.Machine

/-- A request at the head is carried out by its block and answered with its reply, and a free transmitter chooses
(R159, R151). -/
theorem handleRequest_handles {s : State} {f : Frame} {rest : List Entry} (h : s.handles f rest)
    (block : List Byte → State → State × Answer) :
    handleRequest f.kind block s =
      transmit ((block f.payload (s.setList rest)).1.setReply
        (some (replyTo f (block f.payload (s.setList rest)).2))) := by
  obtain ⟨hr, hs, hp, hl⟩ := h
  simp [handleRequest, outOfReset, handleHead, hr, hs, hp, hl]

/-- A request that is refused is answered and changes nothing else (R160). -/
theorem handleRequest_refused {s : State} {f : Frame} {rest : List Entry} (h : s.handles f rest)
    {block : List Byte → State → State × Answer} {a : Answer}
    (hb : block f.payload (s.setList rest) = (s.setList rest, a)) :
    handleRequest f.kind block s = transmit (s.answered f rest a.status.code a.data) := by
  rw [handleRequest_handles h, hb]; rfl

/-- Everything `handleRequest` can do: the state as it was, or the block's effect on the state without the head entry,
with its reply placed (R159). -/
theorem handleRequest_cases (kind : Byte) (block : List Byte → State → State × Answer) (s : State) :
    handleRequest kind block s = s ∨
      ∃ f rest, f.kind = kind ∧ s.handles f rest ∧
        handleRequest kind block s =
          transmit ((block f.payload (s.setList rest)).1.setReply
            (some (replyTo f (block f.payload (s.setList rest)).2))) := by
  by_cases h : ∃ f rest, f.kind = kind ∧ s.handles f rest
  · obtain ⟨f, rest, hk, hh⟩ := h
    exact .inr ⟨f, rest, hk, hh, by rw [← hk]; exact handleRequest_handles hh block⟩
  · left
    unfold handleRequest outOfReset handleHead
    split
    · rfl
    · split
      · split
        · next f rest hp hl hc =>
          simp only [Bool.and_eq_true, Bool.not_eq_true', beq_iff_eq] at hc
          exact absurd ⟨f, rest, hc.2, by simp_all, hc.1, hp, hl⟩ h
        · rfl
      · rfl

/-- Everything `refusedOr` can do: the refusal with nothing changed, or the effect. -/
theorem refusedOr_cases (refusal : Option Answer) (effect : State × Answer) (s : State) :
    (∃ a, refusal = some a ∧ refusedOr refusal effect s = (s, a)) ∨
      refusal = none ∧ refusedOr refusal effect s = effect := by
  cases refusal with
  | none => exact .inr ⟨rfl, rfl⟩
  | some a => exact .inl ⟨a, rfl, rfl⟩

@[simp] theorem checkThat_eq_none (ok : Bool) (a : Answer) : checkThat ok a = none ↔ ok = true := by
  cases ok <;> simp [checkThat]

@[simp] theorem checkLength_eq_none (n : Nat) (payload : List Byte) :
    checkLength n payload = none ↔ payload.length = n := by
  simp [checkLength]

theorem checkSetup_eq_none (s : State) : checkSetup s = none ↔ s.setup = .loaded ∨ s.setup = .active := by
  cases h : s.setup <;> simp [checkSetup, h]

theorem firstBad_eq_none (checks : List (Nat × Bool)) : firstBad checks = none ↔ ∀ c ∈ checks, c.2 = true := by
  simp [firstBad]

/-- The receiver changes only itself and the receive list (R156, R158). -/
theorem receiveByte_eq (s : State) (b : Byte) :
    receiveByte s b =
      (s.setList (receiveByte s b).recvList).setReceiver (receiveByte s b).receiver := by
  unfold receiveByte appendEntry
  split
  · rfl
  · split <;> rfl
  · rfl
  · rfl
  · dsimp only; split <;> rfl

/-- The transmitter's choice among the notices changes only the notice queue and the frame being sent (R151). -/
theorem sendNotice_eq (q : List Source) (s : State) :
    sendNotice q s = (s.setQueue (sendNotice q s).noticeQueue).setSending (sendNotice q s).sending := by
  induction q with
  | nil => rfl
  | cons src rest ih =>
    unfold sendNotice
    split
    · exact ih
    · rfl

/-- The transmitter's choice changes only the reply slot, the notice queue and the frame being sent (R151). -/
theorem chooseFrame_eq (s : State) :
    chooseFrame s = ((s.setReply (chooseFrame s).replySlot).setQueue (chooseFrame s).noticeQueue).setSending
      (chooseFrame s).sending := by
  unfold chooseFrame
  split
  · rfl
  · split
    · rfl
    · rw [sendNotice_eq]; rfl

/-- What the transmitter does changes only the reply slot, the notice queue and the frame being sent (R151). -/
theorem transmit_eq (s : State) :
    transmit s = ((s.setReply (transmit s).replySlot).setQueue (transmit s).noticeQueue).setSending
      (transmit s).sending := by
  unfold transmit
  split
  · rfl
  · exact chooseFrame_eq s

/-- A transmitter that is sending goes on (R151). -/
theorem transmit_of_sending {s : State} (h : s.sending.isSome = true) : transmit s = s := if_pos h

/-- A free transmitter chooses (R151 step 3). -/
theorem transmit_of_free {s : State} (h : s.sending = none) : transmit s = chooseFrame s := by simp [transmit, h]

/-- A free transmitter with nothing to send stays free (R151 step 3). -/
theorem transmit_of_nothing {s : State} (hf : s.sending = none) (hr : s.replySlot = none) (hq : s.noticeQueue = []) :
    transmit s = s := by
  rw [transmit_of_free hf]
  cases s; simp_all [chooseFrame, sendNotice, State.setSending, State.setQueue]

/-- The choice leaves the transmitter sending, or with nothing to send (R151, R162). -/
theorem chooseFrame_sends (s : State) :
    (chooseFrame s).sending ≠ none ∨
      (chooseFrame s).replySlot = none ∧ ((chooseFrame s).resetting = false → (chooseFrame s).noticeQueue = []) := by
  have notices : ∀ (q : List Source) (s : State), s.replySlot = none →
      (sendNotice q s).sending ≠ none ∨ (sendNotice q s).replySlot = none ∧ (sendNotice q s).noticeQueue = [] := by
    intro q
    induction q with
    | nil => exact fun s h => .inr ⟨h, rfl⟩
    | cons src rest ih =>
      intro s h
      unfold sendNotice
      split
      · exact ih s h
      · exact .inl (by simp)
  unfold chooseFrame
  split
  · exact .inl (by simp)
  · next h =>
    split
    · next hr => exact .inr ⟨h, fun k => absurd (show s.resetting = false from k) (by simp [hr])⟩
    · exact (notices _ s h).imp_right (fun k => ⟨k.1, fun _ => k.2⟩)

/-! ## What `transmit` leaves alone, field by field -/

@[simp] theorem transmit_receiver (s : State) : (transmit s).receiver = s.receiver := by rw [transmit_eq]; rfl
@[simp] theorem transmit_recvList (s : State) : (transmit s).recvList = s.recvList := by rw [transmit_eq]; rfl
@[simp] theorem transmit_resetting (s : State) : (transmit s).resetting = s.resetting := by rw [transmit_eq]; rfl
@[simp] theorem transmit_baud (s : State) : (transmit s).baud = s.baud := by rw [transmit_eq]; rfl
@[simp] theorem transmit_inReset (s : State) : (transmit s).inReset = s.inReset := by rw [transmit_eq]; rfl
@[simp] theorem transmit_setup (s : State) : (transmit s).setup = s.setup := by rw [transmit_eq]; rfl
@[simp] theorem transmit_face (s : State) : (transmit s).face = s.face := by rw [transmit_eq]; rfl
@[simp] theorem transmit_tickExp (s : State) : (transmit s).tickExp = s.tickExp := by rw [transmit_eq]; rfl
@[simp] theorem transmit_members (s : State) : (transmit s).members = s.members := by rw [transmit_eq]; rfl
@[simp] theorem transmit_windows (s : State) : (transmit s).windows = s.windows := by rw [transmit_eq]; rfl
@[simp] theorem transmit_slots (s : State) : (transmit s).slots = s.slots := by rw [transmit_eq]; rfl
@[simp] theorem transmit_nextRow (s : State) : (transmit s).nextRow = s.nextRow := by rw [transmit_eq]; rfl
@[simp] theorem transmit_strip0Released (s : State) : (transmit s).strip0Released = s.strip0Released := by
  rw [transmit_eq]; rfl
@[simp] theorem transmit_stations (s : State) : (transmit s).stations = s.stations := by rw [transmit_eq]; rfl
@[simp] theorem transmit_globalNotices (s : State) : (transmit s).globalNotices = s.globalNotices := by
  rw [transmit_eq]; rfl
@[simp] theorem transmit_stopLine (s : State) : (transmit s).stopLine = s.stopLine := by rw [transmit_eq]; rfl
@[simp] theorem transmit_tick (s : State) : (transmit s).tick = s.tick := by rw [transmit_eq]; rfl
@[simp] theorem transmit_pending (s : State) : (transmit s).pending = s.pending := by rw [transmit_eq]; rfl
@[simp] theorem transmit_st (s : State) (p : StationId) : (transmit s).st p = s.st p := by simp [State.st]
@[simp] theorem transmit_noticeSets (s : State) (src : Source) : (transmit s).noticeSets src = s.noticeSets src := by
  cases src <;> simp [State.noticeSets]

end Sys2Proof.Machine
end

