-- ==== Sys2Proof/Laws/PerInstr.lean ====
section
/-! SUPPORT. One lemma per command for the family of statements that the host assembles over all commands. -/

namespace Sys2Proof.Laws.KindLaw

/-- The kind byte of the request a command handles names that command again (R163). -/
def Statement (i : Instr) : Prop := ∀ k, kindOfRequest i = some k → requestOfKind k = some i

theorem linkFrameReceived (bytes : List Byte) : Statement (.linkFrameReceived bytes) := by intro k h; cases h
theorem interByteGap : Statement .interByteGap := by intro k h; cases h
theorem linkFramingError : Statement .linkFramingError := by intro k h; cases h
theorem linkError : Statement .linkError := by intro k h; cases h
theorem badKind : Statement .badKind := by intro k h; cases h
theorem status : Statement .status := by intro k h; cases h; rfl
theorem setupDefine : Statement .setupDefine := by intro k h; cases h; rfl
theorem setupClose : Statement .setupClose := by intro k h; cases h; rfl
theorem stationConfig : Statement .stationConfig := by intro k h; cases h; rfl
theorem windowSet : Statement .windowSet := by intro k h; cases h; rfl
theorem windowClear : Statement .windowClear := by intro k h; cases h; rfl
theorem row : Statement .row := by intro k h; cases h; rfl
theorem start : Statement .start := by intro k h; cases h; rfl
theorem hold : Statement .hold := by intro k h; cases h; rfl
theorem resume : Statement .resume := by intro k h; cases h; rfl
theorem park : Statement .park := by intro k h; cases h; rfl
theorem unpark : Statement .unpark := by intro k h; cases h; rfl
theorem abort : Statement .abort := by intro k h; cases h; rfl
theorem stepCell : Statement .stepCell := by intro k h; cases h; rfl
theorem dressMode : Statement .dressMode := by intro k h; cases h; rfl
theorem toolChanged : Statement .toolChanged := by intro k h; cases h; rfl
theorem stationStatus : Statement .stationStatus := by intro k h; cases h; rfl
theorem readStock : Statement .readStock := by intro k h; cases h; rfl
theorem noticeMask : Statement .noticeMask := by intro k h; cases h; rfl
theorem noticeClear : Statement .noticeClear := by intro k h; cases h; rfl
theorem resetRequest : Statement .resetRequest := by intro k h; cases h; rfl
theorem resetCompletion (straps : BitVec 2) (stop : Bool) : Statement (.resetCompletion straps stop) := by intro k h; cases h
theorem transmitterFree : Statement .transmitterFree := by intro k h; cases h
theorem mark (p : StationId) (load : BitVec 16) (valid : Bool) : Statement (.mark p load valid) := by intro k h; cases h
theorem dressed (p : StationId) (number : BitVec 4) (length : Option (BitVec 16)) : Statement (.dressed p number length) := by intro k h; cases h
theorem driveWordDiscarded (p : StationId) (bytes : List Byte) : Statement (.driveWordDiscarded p bytes) := by intro k h; cases h
theorem driveByteGap (p : StationId) : Statement (.driveByteGap p) := by intro k h; cases h
theorem driveCommandSent (p : StationId) : Statement (.driveCommandSent p) := by intro k h; cases h
theorem approachTimeout (p : StationId) : Statement (.approachTimeout p) := by intro k h; cases h
theorem leadTimerExpiry (p : StationId) : Statement (.leadTimerExpiry p) := by intro k h; cases h
theorem blankTimerExpiry (p : StationId) : Statement (.blankTimerExpiry p) := by intro k h; cases h
theorem missTimeout (p : StationId) : Statement (.missTimeout p) := by intro k h; cases h
theorem settleExpiry (p : StationId) : Statement (.settleExpiry p) := by intro k h; cases h
theorem dressTimeout (p : StationId) : Statement (.dressTimeout p) := by intro k h; cases h
theorem stopLineAsserted : Statement .stopLineAsserted := by intro k h; cases h
theorem stopLineReleased : Statement .stopLineReleased := by intro k h; cases h
theorem resetPin : Statement .resetPin := by intro k h; cases h
theorem resetPinRelease (straps : BitVec 2) (stop : Bool) : Statement (.resetPinRelease straps stop) := by intro k h; cases h
theorem powerOnReset (straps : BitVec 2) (stop : Bool) : Statement (.powerOnReset straps stop) := by intro k h; cases h
theorem lenOutOfRange (hi : Byte) : Statement (.lenOutOfRange hi) := by intro k h; cases h

end Sys2Proof.Laws.KindLaw
end

