-- ==== Sys2Proof/Laws/StationFields.lean ====
section
/-! SUPPORT. One lemma per field for each named update of a station. -/

namespace Sys2Proof.Machine

/-! ## `Station.leaveCutting` -/

@[simp] theorem Station.leaveCutting_state (x : Station) : (x.leaveCutting).state = x.state := rfl
@[simp] theorem Station.leaveCutting_ret (x : Station) : (x.leaveCutting).ret = x.ret := rfl
@[simp] theorem Station.leaveCutting_holdPending (x : Station) : (x.leaveCutting).holdPending = x.holdPending := rfl
@[simp] theorem Station.leaveCutting_parkPending (x : Station) : (x.leaveCutting).parkPending = x.parkPending := rfl
@[simp] theorem Station.leaveCutting_resumeSpinup (x : Station) :
    (x.leaveCutting).resumeSpinup = x.resumeSpinup := rfl
@[simp] theorem Station.leaveCutting_strip (x : Station) : (x.leaveCutting).strip = x.strip := rfl
@[simp] theorem Station.leaveCutting_config (x : Station) : (x.leaveCutting).config = x.config := rfl
@[simp] theorem Station.leaveCutting_work (x : Station) : (x.leaveCutting).work = x.work := rfl
@[simp] theorem Station.leaveCutting_plan (x : Station) : (x.leaveCutting).plan = none := rfl
@[simp] theorem Station.leaveCutting_captures (x : Station) : (x.leaveCutting).captures = x.captures := rfl
@[simp] theorem Station.leaveCutting_captureRef (x : Station) : (x.leaveCutting).captureRef = none := rfl
@[simp] theorem Station.leaveCutting_timers (x : Station) : (x.leaveCutting).timers = x.timers.stopCell := rfl
@[simp] theorem Station.leaveCutting_counts (x : Station) : (x.leaveCutting).counts = x.counts := rfl
@[simp] theorem Station.leaveCutting_beff (x : Station) : (x.leaveCutting).beff = x.beff := rfl
@[simp] theorem Station.leaveCutting_prevResidual (x : Station) :
    (x.leaveCutting).prevResidual = x.prevResidual := rfl
@[simp] theorem Station.leaveCutting_dress (x : Station) : (x.leaveCutting).dress = x.dress := rfl
@[simp] theorem Station.leaveCutting_port (x : Station) : (x.leaveCutting).port = x.port := rfl
@[simp] theorem Station.leaveCutting_notices (x : Station) : (x.leaveCutting).notices = x.notices := rfl

/-! ## `Station.outOfRun` -/

@[simp] theorem Station.outOfRun_state (x : Station) : (x.outOfRun).state = x.state := rfl
@[simp] theorem Station.outOfRun_ret (x : Station) : (x.outOfRun).ret = x.ret := rfl
@[simp] theorem Station.outOfRun_holdPending (x : Station) : (x.outOfRun).holdPending = x.holdPending := rfl
@[simp] theorem Station.outOfRun_parkPending (x : Station) : (x.outOfRun).parkPending = x.parkPending := rfl
@[simp] theorem Station.outOfRun_resumeSpinup (x : Station) : (x.outOfRun).resumeSpinup = x.resumeSpinup := rfl
@[simp] theorem Station.outOfRun_strip (x : Station) : (x.outOfRun).strip = x.strip := rfl
@[simp] theorem Station.outOfRun_config (x : Station) : (x.outOfRun).config = x.config := rfl
@[simp] theorem Station.outOfRun_work (x : Station) : (x.outOfRun).work = x.work := rfl
@[simp] theorem Station.outOfRun_plan (x : Station) : (x.outOfRun).plan = none := rfl
@[simp] theorem Station.outOfRun_captures (x : Station) : (x.outOfRun).captures = x.captures := rfl
@[simp] theorem Station.outOfRun_captureRef (x : Station) : (x.outOfRun).captureRef = none := rfl
@[simp] theorem Station.outOfRun_timers (x : Station) : (x.outOfRun).timers = x.timers.stopCell := rfl
@[simp] theorem Station.outOfRun_counts (x : Station) : (x.outOfRun).counts = x.counts := rfl
@[simp] theorem Station.outOfRun_beff (x : Station) : (x.outOfRun).beff = x.beff := rfl
@[simp] theorem Station.outOfRun_prevResidual (x : Station) : (x.outOfRun).prevResidual = x.prevResidual := rfl
@[simp] theorem Station.outOfRun_dress (x : Station) : (x.outOfRun).dress = x.dress := rfl
@[simp] theorem Station.outOfRun_port (x : Station) : (x.outOfRun).port = x.port := rfl
@[simp] theorem Station.outOfRun_notices (x : Station) : (x.outOfRun).notices = x.notices := rfl

/-! ## `Station.shutOff` -/

@[simp] theorem Station.shutOff_state (x : Station) : (x.shutOff).state = .off := rfl
@[simp] theorem Station.shutOff_ret (x : Station) : (x.shutOff).ret = .work := rfl
@[simp] theorem Station.shutOff_holdPending (x : Station) : (x.shutOff).holdPending = false := rfl
@[simp] theorem Station.shutOff_parkPending (x : Station) : (x.shutOff).parkPending = false := rfl
@[simp] theorem Station.shutOff_resumeSpinup (x : Station) : (x.shutOff).resumeSpinup = false := rfl
@[simp] theorem Station.shutOff_strip (x : Station) : (x.shutOff).strip = 0 := rfl
@[simp] theorem Station.shutOff_config (x : Station) : (x.shutOff).config = none := rfl
@[simp] theorem Station.shutOff_work (x : Station) : (x.shutOff).work = none := rfl
@[simp] theorem Station.shutOff_plan (x : Station) : (x.shutOff).plan = none := rfl
@[simp] theorem Station.shutOff_captures (x : Station) : (x.shutOff).captures = [] := rfl
@[simp] theorem Station.shutOff_captureRef (x : Station) : (x.shutOff).captureRef = none := rfl
@[simp] theorem Station.shutOff_timers (x : Station) : (x.shutOff).timers = Timers.stopped := rfl
@[simp] theorem Station.shutOff_counts (x : Station) : (x.shutOff).counts = x.counts := rfl
@[simp] theorem Station.shutOff_beff (x : Station) : (x.shutOff).beff = x.beff := rfl
@[simp] theorem Station.shutOff_prevResidual (x : Station) : (x.shutOff).prevResidual = x.prevResidual := rfl
@[simp] theorem Station.shutOff_dress (x : Station) :
    (x.shutOff).dress = { x.dress with inFlight := none, owed := 0 } := rfl
@[simp] theorem Station.shutOff_port (x : Station) : (x.shutOff).port = x.port := rfl
@[simp] theorem Station.shutOff_notices (x : Station) : (x.shutOff).notices = x.notices := rfl

/-! ## `Station.started` -/

@[simp] theorem Station.started_state (x : Station) : (x.started).state = x.state := rfl
@[simp] theorem Station.started_ret (x : Station) : (x.started).ret = .work := rfl
@[simp] theorem Station.started_holdPending (x : Station) : (x.started).holdPending = false := rfl
@[simp] theorem Station.started_parkPending (x : Station) : (x.started).parkPending = false := rfl
@[simp] theorem Station.started_resumeSpinup (x : Station) : (x.started).resumeSpinup = x.resumeSpinup := rfl
@[simp] theorem Station.started_strip (x : Station) : (x.started).strip = 0 := rfl
@[simp] theorem Station.started_config (x : Station) : (x.started).config = x.config := rfl
@[simp] theorem Station.started_work (x : Station) : (x.started).work = x.work := rfl
@[simp] theorem Station.started_plan (x : Station) : (x.started).plan = x.plan := rfl
@[simp] theorem Station.started_captures (x : Station) : (x.started).captures = [] := rfl
@[simp] theorem Station.started_captureRef (x : Station) : (x.started).captureRef = x.captureRef := rfl
@[simp] theorem Station.started_timers (x : Station) : (x.started).timers = x.timers := rfl
@[simp] theorem Station.started_counts (x : Station) : (x.started).counts = Counts.zero := rfl
@[simp] theorem Station.started_beff (x : Station) : (x.started).beff = x.cfg.bite := rfl
@[simp] theorem Station.started_prevResidual (x : Station) : (x.started).prevResidual = x.prevResidual := rfl
@[simp] theorem Station.started_dress (x : Station) : (x.started).dress = x.dress := rfl
@[simp] theorem Station.started_port (x : Station) : (x.started).port = x.port := rfl
@[simp] theorem Station.started_notices (x : Station) : (x.started).notices = x.notices := rfl

/-! ## `Station.sends` -/

@[simp] theorem Station.sends_state (x : Station) (c : DriveCmd) : (x.sends c).state = x.state := rfl
@[simp] theorem Station.sends_ret (x : Station) (c : DriveCmd) : (x.sends c).ret = x.ret := rfl
@[simp] theorem Station.sends_holdPending (x : Station) (c : DriveCmd) :
    (x.sends c).holdPending = x.holdPending := rfl
@[simp] theorem Station.sends_parkPending (x : Station) (c : DriveCmd) :
    (x.sends c).parkPending = x.parkPending := rfl
@[simp] theorem Station.sends_resumeSpinup (x : Station) (c : DriveCmd) :
    (x.sends c).resumeSpinup = x.resumeSpinup := rfl
@[simp] theorem Station.sends_strip (x : Station) (c : DriveCmd) : (x.sends c).strip = x.strip := rfl
@[simp] theorem Station.sends_config (x : Station) (c : DriveCmd) : (x.sends c).config = x.config := rfl
@[simp] theorem Station.sends_work (x : Station) (c : DriveCmd) : (x.sends c).work = x.work := rfl
@[simp] theorem Station.sends_plan (x : Station) (c : DriveCmd) : (x.sends c).plan = x.plan := rfl
@[simp] theorem Station.sends_captures (x : Station) (c : DriveCmd) : (x.sends c).captures = x.captures := rfl
@[simp] theorem Station.sends_captureRef (x : Station) (c : DriveCmd) : (x.sends c).captureRef = x.captureRef := rfl
@[simp] theorem Station.sends_timers (x : Station) (c : DriveCmd) : (x.sends c).timers = x.timers := rfl
@[simp] theorem Station.sends_counts (x : Station) (c : DriveCmd) : (x.sends c).counts = x.counts := rfl
@[simp] theorem Station.sends_beff (x : Station) (c : DriveCmd) : (x.sends c).beff = x.beff := rfl
@[simp] theorem Station.sends_prevResidual (x : Station) (c : DriveCmd) :
    (x.sends c).prevResidual = x.prevResidual := rfl
@[simp] theorem Station.sends_dress (x : Station) (c : DriveCmd) : (x.sends c).dress = x.dress := rfl
@[simp] theorem Station.sends_port (x : Station) (c : DriveCmd) :
    (x.sends c).port = { x.port with queue := enqueueCmd c x.port.queue } := rfl
@[simp] theorem Station.sends_notices (x : Station) (c : DriveCmd) : (x.sends c).notices = x.notices := rfl

/-! ## `Station.overloadHit` -/

@[simp] theorem Station.overloadHit_state (x : Station) : (x.overloadHit).state = x.state := rfl
@[simp] theorem Station.overloadHit_ret (x : Station) : (x.overloadHit).ret = x.ret := rfl
@[simp] theorem Station.overloadHit_holdPending (x : Station) : (x.overloadHit).holdPending = x.holdPending := rfl
@[simp] theorem Station.overloadHit_parkPending (x : Station) : (x.overloadHit).parkPending = x.parkPending := rfl
@[simp] theorem Station.overloadHit_resumeSpinup (x : Station) : (x.overloadHit).resumeSpinup = x.resumeSpinup := rfl
@[simp] theorem Station.overloadHit_strip (x : Station) : (x.overloadHit).strip = x.strip := rfl
@[simp] theorem Station.overloadHit_config (x : Station) : (x.overloadHit).config = x.config := rfl
@[simp] theorem Station.overloadHit_plan (x : Station) : (x.overloadHit).plan = x.plan := rfl
@[simp] theorem Station.overloadHit_captures (x : Station) : (x.overloadHit).captures = x.captures := rfl
@[simp] theorem Station.overloadHit_captureRef (x : Station) : (x.overloadHit).captureRef = x.captureRef := rfl
@[simp] theorem Station.overloadHit_timers (x : Station) : (x.overloadHit).timers = x.timers := rfl
@[simp] theorem Station.overloadHit_prevResidual (x : Station) : (x.overloadHit).prevResidual = x.prevResidual := rfl
@[simp] theorem Station.overloadHit_dress (x : Station) : (x.overloadHit).dress = x.dress := rfl
@[simp] theorem Station.overloadHit_port (x : Station) : (x.overloadHit).port = x.port := rfl
@[simp] theorem Station.overloadHit_notices (x : Station) : (x.overloadHit).notices = x.notices := rfl

/-! ## `Station.exitCell` -/

@[simp] theorem Station.exitCell_state (x : Station) (pl : Plan) (j : Nat) : (x.exitCell pl j).state = x.state := rfl
@[simp] theorem Station.exitCell_ret (x : Station) (pl : Plan) (j : Nat) : (x.exitCell pl j).ret = x.ret := rfl
@[simp] theorem Station.exitCell_holdPending (x : Station) (pl : Plan) (j : Nat) :
    (x.exitCell pl j).holdPending = x.holdPending := rfl
@[simp] theorem Station.exitCell_parkPending (x : Station) (pl : Plan) (j : Nat) :
    (x.exitCell pl j).parkPending = x.parkPending := rfl
@[simp] theorem Station.exitCell_resumeSpinup (x : Station) (pl : Plan) (j : Nat) :
    (x.exitCell pl j).resumeSpinup = x.resumeSpinup := rfl
@[simp] theorem Station.exitCell_strip (x : Station) (pl : Plan) (j : Nat) : (x.exitCell pl j).strip = x.strip := rfl
@[simp] theorem Station.exitCell_config (x : Station) (pl : Plan) (j : Nat) :
    (x.exitCell pl j).config = x.config := rfl
@[simp] theorem Station.exitCell_plan (x : Station) (pl : Plan) (j : Nat) :
    (x.exitCell pl j).plan = some { pl with next := j + 2 } := rfl
@[simp] theorem Station.exitCell_captures (x : Station) (pl : Plan) (j : Nat) :
    (x.exitCell pl j).captures = x.captures := rfl
@[simp] theorem Station.exitCell_captureRef (x : Station) (pl : Plan) (j : Nat) :
    (x.exitCell pl j).captureRef = x.captureRef := rfl
@[simp] theorem Station.exitCell_timers (x : Station) (pl : Plan) (j : Nat) :
    (x.exitCell pl j).timers = x.timers := rfl
@[simp] theorem Station.exitCell_counts (x : Station) (pl : Plan) (j : Nat) :
    (x.exitCell pl j).counts = x.counts := rfl
@[simp] theorem Station.exitCell_beff (x : Station) (pl : Plan) (j : Nat) : (x.exitCell pl j).beff = x.beff := rfl
@[simp] theorem Station.exitCell_prevResidual (x : Station) (pl : Plan) (j : Nat) :
    (x.exitCell pl j).prevResidual = x.prevResidual := rfl
@[simp] theorem Station.exitCell_port (x : Station) (pl : Plan) (j : Nat) : (x.exitCell pl j).port = x.port := rfl
@[simp] theorem Station.exitCell_notices (x : Station) (pl : Plan) (j : Nat) :
    (x.exitCell pl j).notices = x.notices := rfl

/-! ## `Station.restartTimers` -/

@[simp] theorem Station.restartTimers_state (x : Station) (now : Nat) (awaits : Bool) :
    (x.restartTimers now awaits).state = x.state := rfl
@[simp] theorem Station.restartTimers_ret (x : Station) (now : Nat) (awaits : Bool) :
    (x.restartTimers now awaits).ret = x.ret := rfl
@[simp] theorem Station.restartTimers_holdPending (x : Station) (now : Nat) (awaits : Bool) :
    (x.restartTimers now awaits).holdPending = x.holdPending := rfl
@[simp] theorem Station.restartTimers_parkPending (x : Station) (now : Nat) (awaits : Bool) :
    (x.restartTimers now awaits).parkPending = x.parkPending := rfl
@[simp] theorem Station.restartTimers_resumeSpinup (x : Station) (now : Nat) (awaits : Bool) :
    (x.restartTimers now awaits).resumeSpinup = x.resumeSpinup := rfl
@[simp] theorem Station.restartTimers_strip (x : Station) (now : Nat) (awaits : Bool) :
    (x.restartTimers now awaits).strip = x.strip := rfl
@[simp] theorem Station.restartTimers_config (x : Station) (now : Nat) (awaits : Bool) :
    (x.restartTimers now awaits).config = x.config := rfl
@[simp] theorem Station.restartTimers_work (x : Station) (now : Nat) (awaits : Bool) :
    (x.restartTimers now awaits).work = x.work := rfl
@[simp] theorem Station.restartTimers_plan (x : Station) (now : Nat) (awaits : Bool) :
    (x.restartTimers now awaits).plan = x.plan := rfl
@[simp] theorem Station.restartTimers_captures (x : Station) (now : Nat) (awaits : Bool) :
    (x.restartTimers now awaits).captures = x.captures := rfl
@[simp] theorem Station.restartTimers_captureRef (x : Station) (now : Nat) (awaits : Bool) :
    (x.restartTimers now awaits).captureRef = x.captureRef := rfl
@[simp] theorem Station.restartTimers_counts (x : Station) (now : Nat) (awaits : Bool) :
    (x.restartTimers now awaits).counts = x.counts := rfl
@[simp] theorem Station.restartTimers_beff (x : Station) (now : Nat) (awaits : Bool) :
    (x.restartTimers now awaits).beff = x.beff := rfl
@[simp] theorem Station.restartTimers_prevResidual (x : Station) (now : Nat) (awaits : Bool) :
    (x.restartTimers now awaits).prevResidual = x.prevResidual := rfl
@[simp] theorem Station.restartTimers_dress (x : Station) (now : Nat) (awaits : Bool) :
    (x.restartTimers now awaits).dress = x.dress := rfl
@[simp] theorem Station.restartTimers_port (x : Station) (now : Nat) (awaits : Bool) :
    (x.restartTimers now awaits).port = x.port := rfl
@[simp] theorem Station.restartTimers_notices (x : Station) (now : Nat) (awaits : Bool) :
    (x.restartTimers now awaits).notices = x.notices := rfl

/-! ## `Station.markTimers` -/

@[simp] theorem Station.markTimers_state (x : Station) (now : Nat) (awaits : Bool) :
    (x.markTimers now awaits).state = x.state := rfl
@[simp] theorem Station.markTimers_ret (x : Station) (now : Nat) (awaits : Bool) :
    (x.markTimers now awaits).ret = x.ret := rfl
@[simp] theorem Station.markTimers_holdPending (x : Station) (now : Nat) (awaits : Bool) :
    (x.markTimers now awaits).holdPending = x.holdPending := rfl
@[simp] theorem Station.markTimers_parkPending (x : Station) (now : Nat) (awaits : Bool) :
    (x.markTimers now awaits).parkPending = x.parkPending := rfl
@[simp] theorem Station.markTimers_resumeSpinup (x : Station) (now : Nat) (awaits : Bool) :
    (x.markTimers now awaits).resumeSpinup = x.resumeSpinup := rfl
@[simp] theorem Station.markTimers_strip (x : Station) (now : Nat) (awaits : Bool) :
    (x.markTimers now awaits).strip = x.strip := rfl
@[simp] theorem Station.markTimers_config (x : Station) (now : Nat) (awaits : Bool) :
    (x.markTimers now awaits).config = x.config := rfl
@[simp] theorem Station.markTimers_work (x : Station) (now : Nat) (awaits : Bool) :
    (x.markTimers now awaits).work = x.work := rfl
@[simp] theorem Station.markTimers_plan (x : Station) (now : Nat) (awaits : Bool) :
    (x.markTimers now awaits).plan = x.plan := rfl
@[simp] theorem Station.markTimers_captures (x : Station) (now : Nat) (awaits : Bool) :
    (x.markTimers now awaits).captures = x.captures := rfl
@[simp] theorem Station.markTimers_captureRef (x : Station) (now : Nat) (awaits : Bool) :
    (x.markTimers now awaits).captureRef = some now := rfl
@[simp] theorem Station.markTimers_counts (x : Station) (now : Nat) (awaits : Bool) :
    (x.markTimers now awaits).counts = { x.counts with forcedRun := 0 } := rfl
@[simp] theorem Station.markTimers_beff (x : Station) (now : Nat) (awaits : Bool) :
    (x.markTimers now awaits).beff = x.beff := rfl
@[simp] theorem Station.markTimers_prevResidual (x : Station) (now : Nat) (awaits : Bool) :
    (x.markTimers now awaits).prevResidual = x.prevResidual := rfl
@[simp] theorem Station.markTimers_dress (x : Station) (now : Nat) (awaits : Bool) :
    (x.markTimers now awaits).dress = x.dress := rfl
@[simp] theorem Station.markTimers_port (x : Station) (now : Nat) (awaits : Bool) :
    (x.markTimers now awaits).port = x.port := rfl
@[simp] theorem Station.markTimers_notices (x : Station) (now : Nat) (awaits : Bool) :
    (x.markTimers now awaits).notices = x.notices := rfl

/-- Leaving CUTTING and being out of a run are one update (R73, R89). -/
theorem Station.outOfRun_eq (x : Station) : x.outOfRun = x.leaveCutting := rfl

/-- A capture of an accepted mark changes only the history (R75). -/
theorem Station.capture_eq (x : Station) (now j : Nat) :
    x.capture now j = { x with captures := (x.capture now j).captures } := by
  unfold Station.capture; split
  · rfl
  · split <;> rfl

end Sys2Proof.Machine
end

