-- ==== Sys2Proof/Laws/Stations.lean ====
section
/-! SUPPORT. What the shared operations of a station leave alone: the link, the setup record, the timebase, and every
other station. One lemma for each operation; the events of one station are put together from them. -/

namespace Sys2Proof.Machine

/-- A station's operation leaves the link, the setup record, the windows, the participation set, the next expected row,
the stop line, the timebase and every other station as they were. It may change its own station, the two slots, the
state of the setup, the notice sets of source 7 and the notice queue. -/
structure TouchesOnly (p : StationId) (s t : State) : Prop where
  receiver : t.receiver = s.receiver
  recvList : t.recvList = s.recvList
  replySlot : t.replySlot = s.replySlot
  sending : t.sending = s.sending
  resetting : t.resetting = s.resetting
  baud : t.baud = s.baud
  inReset : t.inReset = s.inReset
  face : t.face = s.face
  tickExp : t.tickExp = s.tickExp
  members : t.members = s.members
  windows : t.windows = s.windows
  nextRow : t.nextRow = s.nextRow
  stopLine : t.stopLine = s.stopLine
  tick : t.tick = s.tick
  pending : t.pending = s.pending
  others : ∀ q, q ≠ p → t.st q = s.st q

variable {p : StationId} {s t u : State}

theorem TouchesOnly.refl (p : StationId) (s : State) : TouchesOnly p s s := by constructor <;> intros <;> rfl

theorem TouchesOnly.trans (h : TouchesOnly p s t) (k : TouchesOnly p t u) : TouchesOnly p s u := by
  constructor
  case others => intro q hq; rw [k.others q hq, h.others q hq]
  all_goals first
    | rw [k.receiver, h.receiver] | rw [k.recvList, h.recvList] | rw [k.replySlot, h.replySlot]
    | rw [k.sending, h.sending] | rw [k.resetting, h.resetting] | rw [k.baud, h.baud] | rw [k.inReset, h.inReset]
    | rw [k.face, h.face] | rw [k.tickExp, h.tickExp] | rw [k.members, h.members] | rw [k.windows, h.windows]
    | rw [k.nextRow, h.nextRow] | rw [k.stopLine, h.stopLine] | rw [k.tick, h.tick] | rw [k.pending, h.pending]

/-! ## The operations one by one -/

theorem modSt_touchesOnly (p : StationId) (f : Station → Station) (s : State) : TouchesOnly p s (s.modSt p f) := by
  constructor
  case others => intro q hq; exact State.modSt_st_ne s f (Ne.symm hq)
  all_goals rfl

theorem issue_touchesOnly (p : StationId) (c : DriveCmd) (s : State) : TouchesOnly p s (issue p c s) :=
  modSt_touchesOnly p _ s

theorem issueLiftOff_touchesOnly (p : StationId) (s : State) : TouchesOnly p s (issueLiftOff p s) :=
  (issue_touchesOnly p _ s).trans (issue_touchesOnly p _ _)

theorem setFlag_other (src : Source) (flag : FlagSet) (s : State) (q : StationId) (h : src ≠ .station q) :
    (setFlag src flag s).st q = s.st q := by
  have base : ∀ n : NoticeSets, (s.setNoticeSets src n).st q = s.st q := by
    intro n
    cases src with
    | global => rfl
    | station p =>
      have hv : (p : Nat) ≠ (q : Nat) := fun e => h (by rw [Fin.ext e])
      simp [State.setNoticeSets, State.st, hv]
  unfold setFlag
  simp only
  split_ifs <;> simp [base]

theorem setFlag_touchesOnly (p : StationId) (src : Source) (flag : FlagSet) (s : State)
    (h : src = .station p ∨ src = .global) : TouchesOnly p s (setFlag src flag s) := by
  constructor
  case others =>
    intro q hq
    refine setFlag_other src flag s q ?_
    rcases h with rfl | rfl <;> simp [Ne.symm hq]
  all_goals simp

theorem setSlots_touchesOnly (p : StationId) (v : Vector Slot 2) (s : State) : TouchesOnly p s (s.setSlots v) := by
  constructor <;> intros <;> rfl

theorem setReleased_touchesOnly (p : StationId) (b : Bool) (s : State) : TouchesOnly p s (s.setReleased b) := by
  constructor <;> intros <;> rfl

theorem setSetup_touchesOnly (p : StationId) (st : SetupState) (s : State) : TouchesOnly p s (s.setSetup st) := by
  constructor <;> intros <;> rfl

theorem endSetup_touchesOnly (p : StationId) (s : State) : TouchesOnly p s (endSetup s) :=
  (setSetup_touchesOnly p _ s).trans (setFlag_touchesOnly p _ _ _ (.inr rfl))

theorem endTest_touchesOnly (p : StationId) (s : State) : TouchesOnly p s (endTest s) := by
  unfold endTest; split
  · exact endSetup_touchesOnly p s
  · exact .refl p s

theorem releaseTest_touchesOnly (p : StationId) (i : Fin 2) (s : State) : TouchesOnly p s (releaseTest i s) := by
  unfold releaseTest; split
  · exact ((setSlots_touchesOnly p _ s).trans (setReleased_touchesOnly p _ _)).trans
      (setFlag_touchesOnly p _ _ _ (.inr rfl))
  · exact .refl p s

theorem stripDoneEvent_touchesOnly (p q : StationId) (k : Nat) (s : State) :
    TouchesOnly p s (stripDoneEvent q k s) :=
  (setSlots_touchesOnly p _ s).trans (releaseTest_touchesOnly p _ _)

theorem takePark_touchesOnly (p : StationId) (s : State) : TouchesOnly p s (takePark p s) :=
  (issue_touchesOnly p _ s).trans (modSt_touchesOnly p _ _)

theorem enterHeld_touchesOnly (p : StationId) (b : Bool) (s : State) : TouchesOnly p s (enterHeld p b s) := by
  unfold enterHeld; dsimp only; split
  · exact (modSt_touchesOnly p _ s).trans (takePark_touchesOnly p _)
  · exact modSt_touchesOnly p _ s

theorem enterSpinup_touchesOnly (p : StationId) (s : State) : TouchesOnly p s (enterSpinup p s) :=
  (issue_touchesOnly p _ s).trans (modSt_touchesOnly p _ _)

theorem stallStation_touchesOnly (p : StationId) (flag : FlagSet) (s : State) :
    TouchesOnly p s (stallStation p flag s) :=
  ((issueLiftOff_touchesOnly p s).trans (modSt_touchesOnly p _ _)).trans (setFlag_touchesOnly p _ _ _ (.inl rfl))

theorem stopStation_touchesOnly (p : StationId) (s : State) : TouchesOnly p s (stopStation p s) :=
  (issueLiftOff_touchesOnly p s).trans (modSt_touchesOnly p _ _)

theorem closeStation_touchesOnly (p : StationId) (s : State) : TouchesOnly p s (closeStation p s) :=
  (issueLiftOff_touchesOnly p s).trans (modSt_touchesOnly p _ _)

theorem startDressing_touchesOnly (p : StationId) (kind : DressKind) (quarters : Nat) (gauge : Bool) (s : State) :
    TouchesOnly p s (startDressing p kind quarters gauge s) := by
  unfold startDressing; dsimp only
  exact (issue_touchesOnly p _ s).trans (modSt_touchesOnly p _ _)

theorem startOwed_touchesOnly (p : StationId) (point : CallPoint) (s : State) :
    TouchesOnly p s (startOwed p point s) := startDressing_touchesOnly p _ _ _ s

theorem startClosing_touchesOnly (p : StationId) (s : State) : TouchesOnly p s (startClosing p s) :=
  startDressing_touchesOnly p _ _ _ s

theorem startRun_touchesOnly (p : StationId) (pl : Plan) (s : State) : TouchesOnly p s (startRun p pl s) := by
  unfold startRun; dsimp only; split
  · exact ((issue_touchesOnly p _ s).trans (issue_touchesOnly p _ _)).trans (modSt_touchesOnly p _ _)
  · exact (issue_touchesOnly p _ s).trans (modSt_touchesOnly p _ _)

theorem finishStrip_touchesOnly (p : StationId) (s : State) : TouchesOnly p s (finishStrip p s) := by
  have h : TouchesOnly p s
      ((setFlag (.station p) flagStripDone (stripDoneEvent p (s.st p).strip
        (s.modSt p (fun x => { x with work := none, plan := none })))).modSt p
          (fun x => { x with strip := (s.st p).strip + 1 })) :=
    (((modSt_touchesOnly p _ s).trans (stripDoneEvent_touchesOnly p p _ _)).trans
      (setFlag_touchesOnly p _ _ _ (.inl rfl))).trans (modSt_touchesOnly p _ _)
  unfold finishStrip; dsimp only; split
  · exact h
  · exact ((((h.trans (issue_touchesOnly p _ _)).trans (modSt_touchesOnly p _ _)).trans
      (setFlag_touchesOnly p _ _ _ (.inl rfl)))).trans (endTest_touchesOnly p _)

/-- The way a station goes on in CUTTING, taken apart: whatever holds of the state it begins in, and is kept by each
thing it may do on the way, holds of the state it ends in. -/
theorem carryOn_induction (p : StationId) (P : State → Prop)
    (takeUp_keeps : ∀ s, (s.st p).work = none → s.stripReady (s.st p).strip = true → P s → P (takeUp p s))
    (wait_keeps : ∀ s, (s.st p).work = none → s.stripReady (s.st p).strip = false → P s → P (enterWaiting p s))
    (skip_keeps : ∀ s w, (s.st p).work = some w → w.column < s.width → (buildPlan s (s.st p) w).runCut = 0 → P s →
      P (skipRun p (buildPlan s (s.st p) w) (countClamped p (clampedCells s (s.st p) w) s)))
    (run_keeps : ∀ s w, (s.st p).work = some w → w.column < s.width → (buildPlan s (s.st p) w).runCut ≠ 0 → P s →
      P (startRun p (buildPlan s (s.st p) w) (countClamped p (clampedCells s (s.st p) w) s)))
    (tell_keeps : ∀ s w, (s.st p).work = some w → s.width ≤ w.column → P s → P (tellPassEnd p s))
    (pass_keeps : ∀ s phase, P s → P (newPass p phase s))
    (owed_keeps : ∀ s, (s.st p).dress.owed ≠ 0 → P s → P (startOwed p .stripDone s))
    (finish_keeps : ∀ s, (s.st p).dress.owed = 0 → P s → P (finishStrip p s)) :
    ∀ (fuel : Nat) (s : State), P s → P (carryOn fuel p s) := by
  intro fuel
  induction fuel with
  | zero => exact fun _ h => h
  | succ fuel ih =>
    intro s h
    rw [carryOn]
    split
    · next hw =>
      split
      · next hr => exact ih _ (takeUp_keeps s hw hr h)
      · next hr => exact wait_keeps s hw (by simpa using hr) h
    · next w hw =>
      split
      · next hc =>
        dsimp only
        split
        · next hz => exact ih _ (skip_keeps s w hw hc hz h)
        · next hz => exact run_keeps s w hw hc hz h
      · next hc =>
        have ht := tell_keeps s w hw (by omega) h
        dsimp only
        split
        · exact ih _ (pass_keeps _ _ ht)
        · split
          · next ho => exact owed_keeps _ ho ht
          · next ho =>
            have hf := finish_keeps _ (by simpa using ho) ht
            split
            · exact hf
            · exact ih _ hf

theorem carryOn_touchesOnly (fuel : Nat) (p : StationId) (s : State) : TouchesOnly p s (carryOn fuel p s) := by
  refine carryOn_induction p (fun t => TouchesOnly p s t) ?_ ?_ ?_ ?_ ?_ ?_ ?_ ?_ fuel s (.refl p s)
  · exact fun t _ _ h => h.trans (modSt_touchesOnly p _ t)
  · exact fun t _ _ h => h.trans (modSt_touchesOnly p _ t)
  · exact fun t w _ _ _ h => (h.trans (modSt_touchesOnly p _ t)).trans (modSt_touchesOnly p _ _)
  · exact fun t w _ _ _ h => (h.trans (modSt_touchesOnly p _ t)).trans (startRun_touchesOnly p _ _)
  · exact fun t w _ _ h => h.trans (modSt_touchesOnly p _ t)
  · exact fun t _ h => h.trans (modSt_touchesOnly p _ t)
  · exact fun t _ h => h.trans (startOwed_touchesOnly p _ t)
  · exact fun t _ h => h.trans (finishStrip_touchesOnly p t)

theorem owedThenOn_touchesOnly (p : StationId) (point : CallPoint) (s : State) :
    TouchesOnly p s (owedThenOn p point s) := by
  unfold owedThenOn; split
  · exact startOwed_touchesOnly p _ s
  · exact carryOn_touchesOnly _ p s

theorem comeIntoCutting_touchesOnly (p : StationId) (s : State) : TouchesOnly p s (comeIntoCutting p s) :=
  (modSt_touchesOnly p _ s).trans (owedThenOn_touchesOnly p _ _)

theorem afterOwed_touchesOnly (p : StationId) (point : CallPoint) (s : State) :
    TouchesOnly p s (afterOwed p point s) := by
  refine (modSt_touchesOnly p (fun x => { x with state := .cutting }) s).trans ?_
  unfold afterOwed; dsimp only
  cases point with
  | stripDone =>
    dsimp only
    split
    · exact finishStrip_touchesOnly p _
    · exact (finishStrip_touchesOnly p _).trans (carryOn_touchesOnly _ p _)
  | runEnd => exact carryOn_touchesOnly _ p _
  | intoCutting => exact carryOn_touchesOnly _ p _

theorem closeRun_touchesOnly (p : StationId) (pl : Plan) (s : State) : TouchesOnly p s (closeRun p pl s) :=
  (issue_touchesOnly p _ s).trans (modSt_touchesOnly p _ _)

theorem endRun_touchesOnly (p : StationId) (pl : Plan) (s : State) : TouchesOnly p s (endRun p pl s) := by
  unfold endRun; dsimp only; split
  · exact (closeRun_touchesOnly p pl s).trans (takePark_touchesOnly p _)
  · exact (closeRun_touchesOnly p pl s).trans (owedThenOn_touchesOnly p _ _)

theorem cutShort_touchesOnly (p : StationId) (s : State) : TouchesOnly p s (cutShort p s) :=
  (issue_touchesOnly p _ s).trans (enterHeld_touchesOnly p _ _)

theorem parkForWear_touchesOnly (p : StationId) (s : State) : TouchesOnly p s (parkForWear p s) :=
  ((issue_touchesOnly p _ s).trans (modSt_touchesOnly p _ _)).trans (setFlag_touchesOnly p _ _ _ (.inl rfl))

theorem endSpinup_touchesOnly (p : StationId) (s : State) : TouchesOnly p s (endSpinup p s) := by
  unfold endSpinup; split
  · exact (issue_touchesOnly p _ s).trans (modSt_touchesOnly p _ _)
  · exact ((issue_touchesOnly p _ s).trans (modSt_touchesOnly p _ _)).trans (endTest_touchesOnly p _)
  · exact comeIntoCutting_touchesOnly p s

theorem afterDressing_touchesOnly (p : StationId) (kind : DressKind) (s : State) :
    TouchesOnly p s (afterDressing p kind s) := by
  unfold afterDressing; dsimp only
  split
  · exact takePark_touchesOnly p s
  · split
    · exact enterHeld_touchesOnly p _ s
    · split
      · split
        · exact startOwed_touchesOnly p _ s
        · exact afterOwed_touchesOnly p _ s
      · exact endSpinup_touchesOnly p s

theorem completeDressing_touchesOnly (p : StationId) (f : Dressing) (length : Option Nat) (s : State) :
    TouchesOnly p s (completeDressing p f length s) := by
  have h := modSt_touchesOnly p
    (fun x => { x with timers := { x.timers with dress := none }, dress := x.dress.complete f length }) s
  unfold completeDressing; dsimp only
  have h2 : ∀ u, TouchesOnly p s u →
      TouchesOnly p s (if (u.st p).dress.worn then parkForWear p u else afterDressing p f.kind u) := by
    intro u hu; split
    · exact hu.trans (parkForWear_touchesOnly p u)
    · exact hu.trans (afterDressing_touchesOnly p _ u)
  apply h2
  split
  · exact h.trans (setFlag_touchesOnly p _ _ _ (.inl rfl))
  · exact h

/-! ## Cell timing and load -/

theorem loadCheck_touchesOnly (p : StationId) (bite load : Nat) (s : State) :
    TouchesOnly p s (loadCheck p bite load s).1 := by
  unfold loadCheck; dsimp only
  refine TouchesOnly.trans ?_ (modSt_touchesOnly p _ _)
  have h1 : TouchesOnly p s (if (s.st p).overloadAt (residual (s.st p).cfg.hardness bite load) then
      setFlag (.station p) flagOverload (s.modSt p Station.overloadHit) else s) := by
    split
    · exact (modSt_touchesOnly p _ s).trans (setFlag_touchesOnly p _ _ _ (.inl rfl))
    · exact .refl p s
  split
  · exact h1.trans (setFlag_touchesOnly p _ _ _ (.inl rfl))
  · exact h1

theorem recordExit_touchesOnly (p : StationId) (pl : Plan) (j : Nat) (load : Option Nat) (s : State) :
    TouchesOnly p s (recordExit p pl j load s).1 := by
  have h := modSt_touchesOnly p (fun x => x.exitCell pl j) s
  unfold recordExit; dsimp only
  split
  · dsimp only; exact h.trans (modSt_touchesOnly p _ _)
  · split
    · exact h.trans (loadCheck_touchesOnly p _ _ _)
    · dsimp only; exact h.trans (modSt_touchesOnly p _ _)

theorem markExit_touchesOnly (p : StationId) (pl : Plan) (j : Nat) (load : Option Nat) (s : State) :
    TouchesOnly p s (markExit p pl j load s).1 := by
  unfold markExit; split
  · dsimp only; exact modSt_touchesOnly p _ s
  · exact recordExit_touchesOnly p pl _ load s

theorem startLead_touchesOnly (p : StationId) (pl : Plan) (j : Nat) (s : State) :
    TouchesOnly p s (startLead p pl j s) := by
  unfold startLead; dsimp only
  split
  · split
    · exact (modSt_touchesOnly p _ s).trans (issue_touchesOnly p _ _)
    · exact modSt_touchesOnly p _ s
  · exact .refl p s

theorem latePlunge_touchesOnly (p : StationId) (s : State) : TouchesOnly p s (latePlunge p s) := by
  unfold latePlunge; split
  · exact .refl p s
  · exact ((issue_touchesOnly p _ s).trans (modSt_touchesOnly p _ _)).trans (setFlag_touchesOnly p _ _ _ (.inl rfl))

theorem plungeAtMark_touchesOnly (p : StationId) (pl : Plan) (j : Nat) (s : State) :
    TouchesOnly p s (plungeAtMark p pl j s) := by
  unfold plungeAtMark; split
  · exact issue_touchesOnly p _ s
  · exact (latePlunge_touchesOnly p s).trans (startLead_touchesOnly p pl j _)
  · exact issue_touchesOnly p _ s

theorem plungeAtForced_touchesOnly (p : StationId) (pl : Plan) (j : Nat) (s : State) :
    TouchesOnly p s (plungeAtForced p pl j s) := by
  unfold plungeAtForced; split
  · exact issue_touchesOnly p _ s
  · exact startLead_touchesOnly p pl j s
  · exact .refl p s

theorem acceptMark_touchesOnly (p : StationId) (pl : Plan) (load : Option Nat) (s : State) :
    TouchesOnly p s (acceptMark p pl load s) := by
  have h := (modSt_touchesOnly p (fun x => x.capture s.tick pl.next) s).trans
    (markExit_touchesOnly p pl pl.next load _)
  unfold acceptMark; dsimp only
  split
  · split
    · exact h.trans (cutShort_touchesOnly p _)
    · exact (h.trans (modSt_touchesOnly p _ _)).trans (plungeAtMark_touchesOnly p pl _ _)
  · split
    · exact ((h.trans (modSt_touchesOnly p _ _)).trans (closeRun_touchesOnly p pl _)).trans (enterHeld_touchesOnly p _ _)
    · exact (h.trans (modSt_touchesOnly p _ _)).trans (endRun_touchesOnly p pl _)

/-- A station's operation after which the transmitter may have chosen its next frame (R151). -/
def TouchesAndSends (p : StationId) (s t : State) : Prop := ∃ u, TouchesOnly p s u ∧ (t = u ∨ t = transmit u)

theorem TouchesOnly.sends (h : TouchesOnly p s t) : TouchesAndSends p s t := ⟨t, h, .inl rfl⟩

theorem TouchesOnly.transmits (h : TouchesOnly p s t) : TouchesAndSends p s (transmit t) := ⟨t, h, .inr rfl⟩

theorem TouchesOnly.trans_sends (h : TouchesOnly p s t) (k : TouchesAndSends p t u) : TouchesAndSends p s u := by
  obtain ⟨v, hv, e⟩ := k
  exact ⟨v, h.trans hv, e⟩

/-- Every other station is as it was, also after the transmitter chose (R151). -/
theorem TouchesAndSends.others (h : TouchesAndSends p s t) (q : StationId) (hq : q ≠ p) : t.st q = s.st q := by
  obtain ⟨u, hu, rfl | rfl⟩ := h
  · exact hu.others q hq
  · rw [transmit_st]; exact hu.others q hq

theorem takeMark_sends (p : StationId) (load : Option Nat) (s : State) :
    TouchesAndSends p s (takeMark p load s) := by
  unfold takeMark; dsimp only
  split
  · exact (TouchesOnly.refl p s).sends
  · split
    · exact (modSt_touchesOnly p _ s).sends
    · split
      · exact (TouchesOnly.refl p s).sends
      · split
        · exact (acceptMark_touchesOnly p _ load s).transmits
        · exact (TouchesOnly.refl p s).sends

theorem takeDressed_sends (p : StationId) (number : Nat) (length : Option Nat) (s : State) :
    TouchesAndSends p s (takeDressed p number length s) := by
  unfold takeDressed; split
  · split
    · exact (TouchesOnly.refl p s).sends
    · split
      · exact (completeDressing_touchesOnly p _ length s).transmits
      · exact (TouchesOnly.refl p s).sends
  · exact (TouchesOnly.refl p s).sends

theorem stepRun_touchesOnly (p : StationId) (s : State) : TouchesOnly p s (stepRun p s) := by
  unfold stepRun; split
  · exact .refl p s
  · next pl _ =>
    split
    · have h := (markExit_touchesOnly p pl pl.next none s).trans
        (modSt_touchesOnly p (fun x => { x with counts := { x.counts with forcedRun := 0 } }) _)
      dsimp only; split
      · exact h.trans (plungeAtMark_touchesOnly p pl _ _)
      · exact h.trans (endRun_touchesOnly p pl _)
    · exact .refl p s

theorem leadExpires_touchesOnly (p : StationId) (s : State) : TouchesOnly p s (leadExpires p s) := by
  unfold leadExpires; dsimp only; split
  · exact modSt_touchesOnly p _ s
  · exact (modSt_touchesOnly p _ s).trans (issue_touchesOnly p _ _)

theorem forceExit_touchesOnly (p : StationId) (pl : Plan) (s : State) : TouchesOnly p s (forceExit p pl s) := by
  unfold forceExit; dsimp only
  exact (((((modSt_touchesOnly p _ s).trans (recordExit_touchesOnly p pl _ none _)).trans
    (modSt_touchesOnly p _ _)).trans (setFlag_touchesOnly p _ _ _ (.inl rfl)))).trans (modSt_touchesOnly p _ _)

theorem forceAdvance_touchesOnly (p : StationId) (pl : Plan) (s : State) :
    TouchesOnly p s (forceAdvance p pl s) := by
  unfold forceAdvance; split
  · exact (forceExit_touchesOnly p pl s).trans (plungeAtForced_touchesOnly p pl _ _)
  · exact (forceExit_touchesOnly p pl s).trans (endRun_touchesOnly p pl _)

theorem missExpires_touchesOnly (p : StationId) (s : State) : TouchesOnly p s (missExpires p s) := by
  have h : TouchesOnly p s (earlierLead p s) := by
    unfold earlierLead; split
    · exact .refl p s
    · split
      · exact leadExpires_touchesOnly p s
      · exact .refl p s
  unfold missExpires; dsimp only; split
  · exact h
  · split
    · exact h
    · split
      · exact h.trans (forceAdvance_touchesOnly p _ _)
      · exact h.trans (stallStation_touchesOnly p _ _)

theorem receiveDriveByte_sends (p : StationId) (s : State) (b : Byte) :
    TouchesAndSends p s (receiveDriveByte p s b) := by
  unfold receiveDriveByte; dsimp only; split
  · exact (modSt_touchesOnly p _ s).sends
  · refine (modSt_touchesOnly p (fun x => { x with port := { x.port with partialWord := [] } }) s).trans_sends ?_
    unfold takeWord; dsimp only
    split
    · exact (TouchesOnly.refl p _).sends
    · split
      · split
        · exact takeMark_sends p _ _
        · exact (TouchesOnly.refl p _).sends
      · split
        · split
          · exact takeDressed_sends p _ _ _
          · exact (TouchesOnly.refl p _).sends
        · exact (TouchesOnly.refl p _).sends

/-- Everything an expiry can do: nothing, while its timer is stopped or its boundary has not come, or its effect
(R14). -/
theorem atExpiry_cases (timer : Option Nat) (effect : State → State) (s : State) :
    atExpiry timer effect s = s ∨ ∃ d, timer = some d ∧ s.inReset = false ∧ d ≤ s.tick ∧
      atExpiry timer effect s = effect s := by
  cases timer with
  | none => exact .inl rfl
  | some d =>
    by_cases h : s.inReset = true ∨ s.tick < d
    · exact .inl (if_pos h)
    · exact .inr ⟨d, rfl, by simpa using fun k => h (.inl k), by omega, if_neg h⟩

/-- A timer restarted at this boundary has not run out: its expiry does not occur (R98). -/
theorem startTimer_not_due (now duration : Nat) : ∀ d, startTimer now duration = some d → now < d := by
  intro d h
  unfold startTimer at h
  split at h
  · cases h
  · cases h; omega

/-! ## All six stations -/

/-- An operation that changes each station alone, carried out on all six, changes each station by it alone (R9, R120).
-/
theorem forStations_modSt_st (g : Station → Station) (s : State) (p : StationId) :
    (forStations (fun q s => s.modSt q g) s).st p = g (s.st p) := by
  have h : ∀ p : StationId, p = 0 ∨ p = 1 ∨ p = 2 ∨ p = 3 ∨ p = 4 ∨ p = 5 := by decide
  rcases h p with rfl | rfl | rfl | rfl | rfl | rfl <;>
    simp only [forStations, allStations, List.foldl, State.modSt_st] <;> simp

/-- Whatever each station's operation keeps, the operation on all six keeps. -/
theorem forStations_induction (f : StationId → State → State) (P : State → Prop)
    (keeps : ∀ p s, P s → P (f p s)) (s : State) (h : P s) : P (forStations f s) := by
  have : ∀ (l : List StationId) (s : State), P s → P (l.foldl (fun s p => f p s) s) := by
    intro l
    induction l with
    | nil => exact fun _ h => h
    | cons p l ih => exact fun s h => ih _ (keeps p s h)
  exact this allStations s h

/-! ## Command queues -/

/-- A command queue of at most 16 words stays one (R166). -/
theorem enqueueCmd_length (c : DriveCmd) (q : List DriveCmd) (h : q.length ≤ 16) : (enqueueCmd c q).length ≤ 16 := by
  have hp : (purgeQueue q).length ≤ q.length := by
    cases q with
    | nil => simp [purgeQueue]
    | cons a l => simpa [purgeQueue] using List.length_filter_le _ l
  unfold enqueueCmd
  simp only [show Config.queueDepth = 16 from rfl]
  split_ifs with h1 h2 h3 h4
  · simp; omega
  · exact h
  · simp; omega
  · omega
  · simp; omega

/-- Every word of a queue after a command was appended stood in it before, or is that command (R166). -/
theorem mem_enqueueCmd {c d : DriveCmd} {q : List DriveCmd} (h : d ∈ enqueueCmd c q) : d ∈ q ∨ d = c := by
  have hp : ∀ d, d ∈ purgeQueue q → d ∈ q := by
    cases q with
    | nil => simp [purgeQueue]
    | cons a l => intro d hd; simp only [purgeQueue, List.mem_cons, List.mem_filter] at hd ⊢; tauto
  unfold enqueueCmd at h
  split_ifs at h
  · simpa using h
  · exact .inl h
  · simp only [List.mem_append, List.mem_singleton] at h; exact h.imp_left (hp d)
  · exact .inl (hp d h)
  · simp only [List.mem_append, List.mem_singleton] at h
    rcases h with (h | h) | h
    · exact .inl (hp d (List.mem_of_mem_take h))
    · exact .inl (hp d (List.mem_of_mem_drop h))
    · exact .inr h

/-! ## Stock maps -/

/-- A stock depth that was written reads back (R53). -/
theorem cellAt_setCell_self (table : List (List Nat)) (row col v : Nat) (hr : row < table.length)
    (hc : col < (table.getD row []).length) : cellAt (setCell table row col v) row col = v := by
  simp only [List.getD_eq_getElem _ _ hr] at hc
  simp [cellAt, setCell, hr, hc]

/-- Every other stock depth stays (R53). -/
theorem cellAt_setCell_ne (table : List (List Nat)) (row col row' col' v : Nat) (h : row ≠ row' ∨ col ≠ col') :
    cellAt (setCell table row col v) row' col' = cellAt table row' col' := by
  unfold cellAt setCell
  by_cases hrow : row = row'
  · subst hrow
    have hcol : col ≠ col' := by simpa using h
    by_cases hl : row < table.length
    · simp [List.getD_eq_getElem?_getD, hl, hcol]
    · simp [List.set_eq_of_length_le (Nat.le_of_not_lt hl)]
  · simp [List.getD_eq_getElem?_getD, hrow]

/-! ## Plans -/

/-- A plan depends on the windows, the slots, the face, and of the station on its strip, its configuration, its Beff and
its wear alone (R32, R55). -/
theorem buildPlan_congr {s t : State} {x y : Station} {w v : Work} (hw : t.windows = s.windows)
    (hs : t.slots = s.slots) (hf : t.face = s.face) (hk : y.strip = x.strip) (hc : y.config = x.config)
    (hb : y.beff = x.beff) (hd : y.dress.wear = x.dress.wear) (hcol : v.column = w.column) (hph : v.phase = w.phase)
    (hpa : v.pass = w.pass) (hst : v.stock = w.stock) : buildPlan t y v = buildPlan s x w := by
  have hn : ∀ k, t.rowsOf k = s.rowsOf k := fun k => by
    unfold State.rowsOf State.strips State.height; rw [hf]
  have he : planEntry t y v = planEntry s x w := by
    funext j
    simp [planEntry, State.guarded, State.sample, Station.cfg, hw, hs, hk, hc, hb, hd, hcol, hph, hst]
  simp [buildPlan, hn, he, hk, hcol, hph, hpa]

end Sys2Proof.Machine
end

