-- ==== Sys2Proof/Tests/Slice0.lean ====
section
/-! SUPPORT. Tests of single steps, most of them taken from the worked examples of the manual, and witnesses that the
hypotheses of the statements can be met. -/

namespace Sys2Proof.Tests

open Sys2Proof Sys2Proof.Machine

/-! ## Small states -/

/-- The configuration of station 4 in 6.7, with F = 1 of 6.8 and B, K, OVR and SPL of 9.7. -/
def config : StationConfig :=
  { scale := 16384, offset := 0, depthLimit := 5000, allowance := 20, bite := 150, finishEnabled := true,
    trigger := .atMark, avgDepth := 4, startPeriod := 300, lead := 32, blank := 16, miss := 96, forcedLimit := 1,
    approach := 40, settle := 20, dressTimeout := 10, hardness := 40, overload := 100, spall := 200 }

/-- A cell planned from one depth to another. -/
def cell (d c : Nat) : CellPlan := { depth := c, stock := d, cut := decide (d < c), short := false, setpoint := c }

/-- A run of column 6, with the given cells and next-cell index. -/
def run (phase : Phase) (cells : List CellPlan) (next : Nat) : Plan :=
  { column := 6, phase := phase, pass := 2, rows := cells.length, cells := cells,
    runCut := cells.countP CellPlan.cut, shortCount := 0, next := next, pendingSetpoint := none }

/-- The run of 6.7. -/
def slowRun (next : Nat) : Plan := run .finish [cell 200 300, cell 240 340, cell 280 380, cell 320 420] next

/-- A stock map of 16 columns, all 0 but column 6. -/
def stockOf (depths : List Nat) : List (List Nat) :=
  depths.map (fun d => (List.replicate 16 0).set 6 d)

/-- The position of column 6 over such a map. -/
def work (phase : Phase) (depths : List Nat) : Work :=
  { stock := stockOf depths, phase := phase, pass := 2, column := 6, remaining := 0, overloaded := false, told := false }

/-- A station in a state, configured, with four captures of 400 ticks. -/
def station (st : StationState) : Station :=
  { Station.cleared with
    state := st, config := some config, captures := [400, 400, 400, 400], beff := 100
    work := some (work .finish [200, 240, 280, 320]) }

/-- A station in the run of 6.7, its last mark at tick 200. -/
def running (next : Nat) : Station := { station .cutting with plan := some (slowRun next), captureRef := some 200 }

/-- The same station in trigger mode STEP. -/
def stepping (next : Nat) : Station := { running next with config := some { config with trigger := .step } }

/-- A station in DRESSING with a dressing in flight. -/
def dressing (d : Dressing) : Station :=
  { station .dressing with
    work := none, timers := { Timers.stopped with dress := some 600 }
    dress := { DressRecord.reset with number := d.number, inFlight := some d } }

/-- A strip of one column of depth samples in column 6. -/
def slotWith (k : Nat) (samples : List Nat) : Slot :=
  { state := .full, strip := some k, rows := samples.length
    samples := samples.map (fun m => (List.replicate 16 0).set 6 m), finished := [] }

/-- A face of 16 columns and 4 rows, at tick 600, of which station 4 alone has a record. -/
def bench (x : Station) : State :=
  { State.reset with
    setup := .active, face := some ⟨16, 4, 1⟩, members := [4], tick := 600
    slots := (Vector.replicate 2 Slot.cleared).set 0 (slotWith 0 [300, 340, 380, 420]), nextRow := 4
    stations := (Vector.replicate 6 Station.cleared).set 4 x }

/-- The same part with a request at the head of its receive list, while a frame is being sent: the reply waits in the
slot. -/
def asks (kind : Byte) (payload : List Byte) (s : State) : State :=
  { s with recvList := [.frame ⟨kind, 0x55, payload⟩], sending := some [0xA5] }

/-- What a command leaves, seen through a function; absent when it leaves no state. -/
def after (c : Instr) (s : State) (see : State → α) : Option α :=
  match exec c s with
  | .next t => some (see t)
  | .fault _ => none
  | .refused _ => none

/-- Status byte and data of the reply in the slot. -/
def reply (s : State) : List Byte := (s.replySlot.map Frame.payload).getD []

/-- The state of station 4 and what its drive port sends. -/
def drive (s : State) : StationState × List DriveCmd := ((s.st 4).state, (s.st 4).port.queue)

/-- The stock depths of column 6. -/
def column (s : State) : List Nat := (((s.st 4).work.map Work.stock).getD []).map (fun row => row.getD 6 0)

/-! ## Form of the commands -/

theorem test_wellFormed_refuses_short_frame :
    (Instr.linkFrameReceived [0xA5, 0x02, 0x00, 0x01, 0x00]).wellFormed = false := by
  decide
theorem test_wellFormed_refuses_len_one :
    (Instr.linkFrameReceived [0xA5, 0x01, 0x00, 0x01, 0x00]).wellFormed = false := by
  decide
theorem test_wellFormed_refuses_other_start :
    (Instr.linkFrameReceived [0xA4, 0x02, 0x00, 0x01, 0x00, 0x39]).wellFormed = false := by
  decide
theorem test_wellFormed_refuses_load_1024 : (Instr.mark 0 1024 true).wellFormed = false := by decide
theorem test_wellFormed_refuses_four_bytes :
    (Instr.driveWordDiscarded 0 [0x81, 0, 0, 1]).wellFormed = false := by decide
theorem test_wellFormed_takes_status_frame :
    (Instr.linkFrameReceived [0xA5, 0x02, 0x00, 0x01, 0x00, 0x39]).wellFormed = true := by
  decide

/-- No row of the table gives bits. -/
theorem test_no_word_spells_a_command : decodeTableWord 16 0x1234 = none := by decide

/-! ## The link (11.6, R156, R159, R164) -/

theorem test_status_frame_is_received : after (.linkFrameReceived [0xA5, 0x02, 0x00, 0x01, 0x00, 0x39]) State.reset
    State.recvList = some [.frame ⟨0x01, 0x00, []⟩] := by decide +kernel
theorem test_corrupted_check_becomes_note : after (.linkFrameReceived [0xA5, 0x02, 0x00, 0x01, 0x00, 0x38]) State.reset
    State.recvList = some [.note 0x00 .badCheck] := by decide +kernel
theorem test_gap_discards_partial_frame : after .interByteGap (State.reset.setReceiver (.body 4 [0x01, 0x00]))
    State.receiver = some .hunting := by decide
theorem test_framing_error_keeps_deaf : after .linkFramingError (State.reset.setReceiver .deaf)
    State.receiver = some .deaf := by decide
theorem test_len_1033_is_out_of_range : after (.lenOutOfRange 0x04) (State.reset.setReceiver (.length (some 0x09)))
    State.receiver = some .hunting := by decide
theorem test_len_1032_is_in_range : after (.lenOutOfRange 0x04) (State.reset.setReceiver (.length (some 0x08)))
    State.receiver = some (.body 1032 []) := by decide
theorem test_note_is_answered : after .linkError
    ((State.reset.setList [.note 0x00 .badCheck]).setSending (some [0xA5])) State.replySlot =
      some (some ⟨0x7F, 0x00, [0x0D]⟩) := by decide
theorem test_free_transmitter_sends_the_reply_at_once : after .status ((asks 0x01 [1] State.reset).setSending none)
    (fun s => (s.replySlot, s.sending)) = some (none, some (⟨0x81, 0x55, [0x02]⟩ : Frame).bytes) := by decide +kernel
theorem test_free_transmitter_sends_the_notice_at_once : after .stopLineAsserted (bench (station .held))
    (fun s => (s.noticeQueue, s.sending)) = some ([], some (⟨0x40, 0, [7, 0x04, 0x00]⟩ : Frame).bytes) := by
  decide +kernel
theorem test_kind_16_is_unknown : after .badKind (asks 0x16 [] State.reset) State.replySlot =
    some (some ⟨0x96, 0x55, [0x01]⟩) := by decide
theorem test_status_reply_of_idle_part : after .status (asks 0x01 [] State.reset) reply =
    some [0, 0, 0, 0, 0, 0, 0, 0, 0xFF, 0, 0xFF, 0, 0, 0, 3, 0] := by decide
theorem test_notice_of_missed_starts : after .transmitterFree
    { bench { station .cutting with notices := ⟨0x14, 0x1EF⟩ } with noticeQueue := [.station 4] } State.sending =
      some (some [0xA5, 0x05, 0x00, 0x40, 0x00, 0x04, 0x04, 0x00, crc8 [0x05, 0x00, 0x40, 0x00, 0x04, 0x04, 0x00]]) := by
  decide +kernel
theorem test_entry_without_flag_is_dropped : after .transmitterFree
    { bench (station .cutting) with noticeQueue := [.global] } (fun s => (s.noticeQueue, s.sending)) = some ([], none) := by
  decide
theorem test_reset_request : after .resetRequest (asks 0x15 [] State.reset)
    (fun s => (reply s, s.receiver, s.resetting)) = some ([0], .deaf, true) := by decide
theorem test_reset_waits_for_replies : after (.resetCompletion 0 false)
    { bench (station .idle) with resetting := true, sending := some [0xA5] } State.setup = some .active := by decide
theorem test_reset_completes : after (.resetCompletion 2 true) { bench (station .idle) with resetting := true }
    (fun s => (s.setup, s.baud, s.globalNotices.pending, drive s)) =
      some (.none, .b460800, 0x4, .off, [.lift, .spinOff]) := by decide

/-! ## Setup, windows, rows (2.7, 4.6) -/

theorem test_setup_define : after .setupDefine (asks 0x02 [16, 0, 35, 0, 3] State.reset)
    (fun s => (reply s, s.setup, s.face)) = some ([0], .loaded, some ⟨16, 35, 2⟩) := by decide
theorem test_setup_define_refused_in_active : after .setupDefine (asks 0x02 [16, 0, 35, 0, 3] (bench (station .idle)))
    reply = some [0x04] := by decide
theorem test_setup_close : after .setupClose (asks 0x03 [] (bench (running 2)))
    (fun s => (reply s, s.setup, drive s)) = some ([0], .none, .off, [.lift, .spinOff]) := by decide
theorem test_window_misaligned : after .windowSet
    (asks 0x05 [2, 33, 0, 4, 0, 1, 2] { bench (station .idle) with face := some ⟨16, 35, 2⟩ }) reply = some [0x0A] := by
  decide
theorem test_window_too_large : after .windowSet
    (asks 0x05 [2, 32, 0, 0, 0, 5, 4] { bench (station .idle) with face := some ⟨16, 35, 2⟩ }) reply = some [0x0B] := by
  decide
theorem test_window_clear_slot_4 : after .windowClear (asks 0x06 [4] (bench (station .idle))) reply = some [0x03, 1] := by
  decide
theorem test_window_protects : (⟨32, 4, 1, 2⟩ : Window).protects 33 5 = true ∧
    (⟨32, 4, 1, 2⟩ : Window).protects 34 5 = false := by decide
theorem test_row_clamps_two_samples_and_keeps_the_order :
    let s := { State.reset with setup := .loaded, face := some ⟨16, 100, 4⟩ }
    after .row (asks 0x07 ([0, 0, 0x28, 0xA0, 0xFF, 0xFF] ++ List.replicate 28 0) s)
      (fun s => (reply s, (s.slots[(0 : Fin 2)].samples.getD 0 []).take 3)) =
        some ([0, 2, 0, 1, 0], [40000, 40000, 0]) ∧
    after .row (asks 0x07 ([2, 0] ++ List.replicate 32 0) (s.setNextRow 1)) reply = some [0x06, 1, 0] := by decide
theorem test_last_row_wakes_the_waiting_station : after .row
    (asks 0x07 (halfBytes 39 ++ [0, 40000].flatMap halfBytes)
      { (bench { station .waiting with strip := 1, work := none }) with
        face := some ⟨2, 40, 2⟩, nextRow := 39
        slots := (Vector.replicate 2 Slot.cleared).set 1
          { slotWith 1 [] with state := .filling, rows := 7, samples := List.replicate 7 [0, 0] } })
    (fun s => (drive s, (s.st 4).counts.skipped, (s.st 4).counts.clamp)) = some ((.cutting, [.run 1 8]), 1, 1) := by
  decide

/-! ## Station requests (6.8, 7.11, 8.10, 4.6, 10.6) -/

theorem test_station_config_is_written : after .stationConfig
    (asks 0x04 (configPayload 4 config) (bench Station.cleared))
    (fun s => (reply s, (s.st 4).state, (s.st 4).config)) = some ([0], .idle, some config) := by decide
theorem test_station_config_allowance_above_bite : after .stationConfig
    (asks 0x04 (configPayload 4 { config with allowance := 151 }) (bench Station.cleared)) reply = some [0x03, 5] := by
  decide
theorem test_start_spins_up : after .start (asks 0x08 [0x10] (bench (station .idle)))
    (fun s => (reply s, drive s, (s.st 4).timers.settle)) = some ([0], (.spinup, [.spinOn]), some 21080) := by decide
theorem test_hold_in_cutting : after .hold (asks 0x09 [4] (bench (running 2)))
    (fun s => (reply s, drive s)) = some ([0, 6, 0, 0], .held, [.lift]) := by decide
theorem test_hold_with_a_park_pending_parks : after .hold
    (asks 0x09 [4] (bench { running 2 with parkPending := true }))
    (fun s => (reply s, drive s, (s.st 4).parkPending)) = some ([0, 7, 0, 0], (.parked, [.lift, .spinOff]), false) := by
  decide
theorem test_resume_plans_the_column_again : after .resume
    (asks 0x0A [4] (bench { station .held with work := some (work .finish [300, 340, 280, 320]) }))
    (fun s => ((s.st 4).plan.map (fun pl => pl.cells.map (fun e => (e.stock, e.depth, e.cut))), drive s)) =
      some (some [(300, 300, false), (340, 340, false), (280, 380, true), (320, 420, true)],
        .cutting, [.run 6 4]) := by decide
theorem test_resume_refused_while_stopped : after .resume
    (asks 0x0A [4] { bench (station .stopped) with stopLine := true }) reply = some [0x09] := by decide
theorem test_park_in_cutting_is_pending : after .park (asks 0x0B [4] (bench (running 2))) reply =
    some [0, 3, 0, 1] := by decide
theorem test_unpark_spins_up : after .unpark (asks 0x0C [4] (bench (station .parked)))
    (fun s => (reply s, drive s, (s.st 4).captures)) = some ([0, 2, 0, 0], (.spinup, [.spinOn]), []) := by decide
theorem test_abort_of_the_last_member : after .abort (asks 0x0D [4] (bench (running 2)))
    (fun s => (reply s, drive s, s.setup, s.globalNotices.pending)) =
      some ([0, 0, 0, 0], (.off, [.lift, .spinOff]), .ended, 0x2) := by decide
theorem test_abort_frees_the_slot_all_others_have_finished : after .abort
    (asks 0x0D [4] { bench (running 2) with
      members := [3, 4], slots := (Vector.replicate 2 Slot.cleared).set 0 { slotWith 0 [300] with finished := [3] } })
    (fun s => (s.members, s.slots[(0 : Fin 2)].state, s.strip0Released, s.setup, s.globalNotices.pending)) =
      some ([3], .empty, true, .active, 0x1) := by decide
theorem test_step_enters_the_next_cell : after .stepCell (asks 0x0E [4] (bench (stepping 1)))
    (fun s => (reply s, drive s, column s)) =
      some ([0, 3, 0, 0], (.cutting, [.plunge 340]), [300, 240, 280, 320]) := by decide
theorem test_dress_mode_in_half_a_group : after .dressMode
    (asks 0x0F [4, 2, 0xE8, 0x03] (bench { station .cutting with dress := { DressRecord.reset with qsum := 2 } })) reply =
      some [0x08] := by decide
theorem test_tool_changed : after .toolChanged
    (asks 0x10 [4] (bench { station .parked with dress := { DressRecord.reset with wear := 301, worn := true } }))
    (fun s => (reply s, (s.st 4).dress)) = some ([0], DressRecord.reset) := by decide
theorem test_station_status_begins : after .stationStatus (asks 0x11 [4] (bench (running 3)))
    (fun s => (reply s).take 15) = some [0, 3, 0, 0, 0, 0, 1, 2, 0, 6, 0, 3, 0x90, 0x01, 4] := by decide
theorem test_read_stock : after .readStock (asks 0x12 [4, 2, 5, 0, 3, 0] (bench (station .cutting))) reply =
    some [0, 0, 2, 5, 0, 3, 0, 0, 0, 0x18, 0x01, 0, 0] := by decide
theorem test_read_stock_row_beyond : after .readStock (asks 0x12 [4, 4, 5, 0, 3, 0] (bench (station .cutting))) reply =
    some [0x03, 2] := by decide
theorem test_notice_mask_queues_pending_flag : after .noticeMask
    (asks 0x13 [4, 0xFF, 0x01] (bench { station .cutting with notices := ⟨0x010, 0x1EF⟩ }))
    (fun s => (reply s, s.noticeQueue)) = some ([0, 0x10, 0, 0xFF, 0x01], [.station 4]) := by decide
theorem test_notice_clear : after .noticeClear
    (asks 0x14 [4, 0x0C, 0] (bench { station .cutting with notices := ⟨0x01C, 0x1EF⟩ })) reply =
      some [0, 0x10, 0, 0xEF, 0x01] := by decide

/-! ## Cell timing (5.9, 6.7, 6.8) and load (9.7) -/

theorem test_mark_takes_the_interval : after (.mark 4 0 false) (bench (running 1))
    (fun s => ((s.st 4).captures, column s, drive s, (s.st 4).timers)) =
      some ([400, 400, 400, 400, 400], [300, 240, 280, 320], (.cutting, [.plunge 340]),
        { Timers.stopped with blank := some 650, miss := some 1200 }) := by decide
theorem test_load_check_finds_overload :
    let s := (loadCheck 4 150 520 (bench { running 2 with
      beff := 150, prevResidual := some 15, work := some (work .rough [0, 0, 0]) })).1
    ((s.st 4).beff, (s.st 4).counts.overload, (s.st 4).prevResidual, (s.st 4).notices.pending) =
      (75, 1, some 145, 0x040) := by decide
theorem test_mark_with_spall : after (.mark 4 120 true)
    (bench { running 0 with
      beff := 150, prevResidual := some 15, work := some (work .rough [4650, 4500, 4500, 4500])
      plan := some (run .rough [cell 4500 4650, cell 4500 4650, cell 4500 4650, cell 4500 4650] 2) })
    (fun s => (column s, drive s, (s.st 4).notices.pending, (s.st 4).beff)) =
      some ([4650, 4650, 4500, 4500], (.held, [.lift]), 0x020, 150) := by decide
theorem test_miss_forces_an_advance_then_stalls :
    let s (j forced due : Nat) (stock : List Nat) : State := (bench { running j with
      captures := [400, 400, 400, 400, 400], work := some (work .finish stock)
      counts := { Counts.zero with forcedRun := forced, forcedTotal := forced }
      timers := { Timers.stopped with miss := some due } }).setTick due
    after (.missTimeout 4) (s 2 0 1200 [300, 240, 280, 320])
      (fun s => (column s, drive s, (s.st 4).counts.forcedTotal, (s.st 4).timers)) =
        some ([300, 340, 280, 320], (.cutting, [.plunge 380]), 1,
          { Timers.stopped with blank := some 1250, miss := some 1800 }) ∧
    after (.missTimeout 4) (s 3 1 1800 [300, 340, 280, 320])
      (fun s => (column s, drive s, (s.st 4).notices.pending)) =
        some ([300, 340, 280, 320], (.stalled, [.lift, .spinOff]), 0x008) := by decide
/-- The mark and the miss expiry come together and the mark is taken first: the mark restarts the timer, and the expiry
behind it does not occur (R98). -/
theorem test_miss_expiry_behind_the_mark_does_not_occur :
    let s := bench { running 2 with timers := { Timers.stopped with miss := some 600 } }
    ∀ t, after (.mark 4 0 false) s id = some t → after (.missTimeout 4) t id = some t := by
  intro s t h
  cases h
  decide
theorem test_lead_sends_the_pending_setpoint : after (.leadTimerExpiry 4)
    (bench { running 1 with
      config := some { config with trigger := .lead }, plan := some { slowRun 1 with pendingSetpoint := some 587 }
      timers := { Timers.stopped with lead := some 415 } })
    (fun s => (drive s, (s.st 4).plan.bind Plan.pendingSetpoint)) = some ((.cutting, [.plunge 587]), none) := by decide
theorem test_blank_window_closes : after (.blankTimerExpiry 4)
    (bench { running 1 with timers := { Timers.stopped with blank := some 600 } })
    (fun s => (s.st 4).timers.blank) = some none := by decide
theorem test_approach_expiry_stalls : after (.approachTimeout 4)
    (bench { running 0 with timers := { Timers.stopped with approach := some 600 } })
    (fun s => (drive s, (s.st 4).notices.pending)) = some ((.stalled, [.lift, .spinOff]), 0x008) := by decide

/-- A station that stands after the last column of its pass. -/
def passEnd (w : Work) : Station := { station .cutting with work := some { w with column := 16 } }

/-- The restored bites of 3.5: 37, 74, 148, 150. -/
theorem test_pass_end_restores_the_bite : ∀ b ∈ [(37, 74), (74, 148), (148, 150)],
    let t := carryOn 1 4 (bench { passEnd { work .rough [0] with remaining := 1 } with beff := b.1 })
    ((t.st 4).beff, (t.st 4).work.map Work.pass, (t.st 4).work.map Work.phase) = (b.2, some 3, some .rough) := by decide
theorem test_last_strip_done_ends_the_setup :
    let t := carryOn 1 4 (bench (passEnd (work .finish [300])))
    (drive t, (t.st 4).strip, (t.st 4).notices.pending, t.setup, t.globalNotices.pending) =
      ((.done, [.spinOff]), 1, 0x3, .ended, 0x3) := by decide

/-! ## Dressing (8.10) and drive ports (R165 to R167) -/

theorem test_settle_begins_the_closing_dressing : after (.settleExpiry 4)
    ((bench { station .spinup with timers := { Timers.stopped with settle := some 21080 } }).setTick 21080)
    (fun s => (drive s, (s.st 4).timers.dress)) = some ((.dressing, [.dress 4 true 1]), some 62040) := by decide
theorem test_first_gauge_sets_the_reference : after (.dressed 4 1 (some 52000)) (bench (dressing ⟨4, true, 1, .closing⟩))
    (fun s => ((s.st 4).dress.ref, (s.st 4).dress.wear, (s.st 4).state, (s.st 4).port.queue.isEmpty)) =
      some (some 52000, 0, .cutting, false) := by decide
theorem test_late_dressed_is_ignored : after (.dressed 4 3 (some 51990)) (bench (station .stalled))
    (fun s => (s.st 4).dress) = some DressRecord.reset := by decide
theorem test_dress_timeout_stalls : after (.dressTimeout 4) (bench (dressing ⟨2, true, 3, .owed .runEnd⟩))
    (fun s => (drive s, (s.st 4).notices.pending, (s.st 4).dress.inFlight)) =
      some ((.stalled, [.lift, .spinOff]), 0x100, none) := by decide
theorem test_word_of_unknown_code : after (.driveWordDiscarded 4 [0x83, 0, 0, 0, crc8 [0x83, 0, 0, 0]])
    (bench (running 1)) (fun s => s.st 4) = some (running 1) := by decide +kernel
theorem test_drive_gap : after (.driveByteGap 4)
    (bench { running 1 with port := { queue := [], partialWord := [0x81, 0x00] } }) (fun s => (s.st 4).port.partialWord) =
      some [] := by decide
theorem test_drive_command_sent : after (.driveCommandSent 4)
    (bench { running 1 with port := { queue := [.lift, .spinOff], partialWord := [] } }) drive =
      some (.cutting, [.spinOff]) := by decide

/-! ## Pins (7.11, R162, R168) -/

theorem test_stop_line_asserted : after .stopLineAsserted
    (bench { running 2 with port := { queue := [.lift, .plunge 340, .spinOff], partialWord := [] } })
    (fun s => (drive s, s.globalNotices.pending)) =
      some ((.stopped, [.lift, .spinOff, .lift, .spinOff]), 0x4) := by decide
theorem test_stop_line_released : after .stopLineReleased { bench (station .stopped) with stopLine := true }
    (fun s => (drive s, s.globalNotices.pending)) = some ((.stopped, []), 0x8) := by decide
theorem test_reset_pin_holds : after .resetPin (bench (running 2))
    (fun s => (s.inReset, s.setup, drive s)) = some (true, .none, .off, []) := by decide
theorem test_reset_pin_release : after (.resetPinRelease 1 false) { bench (running 2) with inReset := true }
    (fun s => (s.inReset, s.baud, drive s)) = some (false, .b230400, .off, [.lift, .spinOff]) := by decide
theorem test_power_on_reset : after (.powerOnReset 3 true) State.reset
    (fun s => (s.baud, s.stopLine, s.noticeQueue)) = some (.b921600, true, []) := by decide

/-! ## Witnesses: the hypotheses of the statements, met together, clause by clause -/

theorem witness_StepTakesFrontCommand :
    (State.reset.setPending [.stopLineAsserted, .transmitterFree]).pending = .stopLineAsserted :: [.transmitterFree] := by
  decide
theorem witness_EmptyQueueStepIsOneTick : (bench (running 1)).pending = [] := by decide

/-- A part whose receive list holds three frames and three notes. -/
def crowded : State :=
  State.reset.setList [.frame ⟨1, 0, []⟩, .note 1 .overrun, .frame ⟨2, 0, []⟩, .note 1 .badCheck, .frame ⟨3, 0, []⟩,
    .note 2 .overrun]

theorem witness_SentFrameIsReceivedWhole :
    crowded.inReset = false ∧ crowded.receiver = .hunting ∧ (⟨7, 1, List.replicate 1030 0⟩ : Frame).payload.length ≤ 1030 ∧
    frameCount crowded.recvList < 4 ∧ noteCount crowded.recvList < 4 := by
  exact ⟨by decide, by decide, Nat.le_of_eq List.length_replicate, by decide, by decide⟩
theorem witness_DamagedOrExtraFrameBecomesNote_check :
    let f : Frame := ⟨0x01, 0x00, []⟩
    crowded.inReset = false ∧ crowded.receiver = .hunting ∧ f.payload.length ≤ 1030 ∧ noteCount crowded.recvList < 4 ∧
    f.bytes.dropLast ++ [0x38] ≠ f.bytes := by decide +kernel
theorem witness_DamagedOrExtraFrameBecomesNote_overrun :
    let f : Frame := ⟨0x01, 0x00, []⟩
    let s := crowded.setList (.frame f :: crowded.recvList)
    s.inReset = false ∧ s.receiver = .hunting ∧ f.payload.length ≤ 1030 ∧ noteCount s.recvList < 4 ∧
    f.bytes.dropLast ++ [0x39] = f.bytes ∧ 4 ≤ frameCount s.recvList := by decide +kernel
theorem witness_GapOrBadLengthReturnsToHunting :
    let s := State.reset.setReceiver (.length (some 0x08))
    s.inReset = false ∧ s.receiver ≠ .deaf ∧ s.receiver = .length (some 0x08) ∧
    (s.setReceiver .deaf).receiver = .deaf := by decide
theorem witness_NotesAndUnknownKindsAnswered :
    let note := State.reset.setList [.note 9 .overrun]
    let kept := (State.reset.setList [.frame ⟨1, 9, []⟩]).setResetting true
    (note.inReset = false ∧ note.replySlot = none ∧ note.recvList = .note 9 .overrun :: []) ∧
    (kept.inReset = false ∧ kept.replySlot = none ∧ kept.recvList = .frame ⟨1, 9, []⟩ :: [] ∧ kept.resetting = true) ∧
    (asks 0x00 [] State.reset).handles ⟨0x00, 0x55, []⟩ [] ∧ (asks 0x16 [] State.reset).handles ⟨0x16, 0x55, []⟩ [] := by
  decide
theorem witness_FreeTransmitterChooses :
    let due := { bench { station .cutting with notices := ⟨0x004, 0x1FF⟩ } with noticeQueue := [.station 4, .global] }
    (State.reset.setReply (some ⟨0x81, 0, [0]⟩)).replySlot = some ⟨0x81, 0, [0]⟩ ∧
    (due.inReset = false ∧ due.replySlot = none ∧ due.resetting = false ∧ due.noticeQueue = .station 4 :: [.global] ∧
      due.reportable (.station 4) ≠ 0 ∧ due.reportable .global = 0) ∧ State.reset.noticeQueue = [] ∧
    State.reset.sending = none ∧ (State.reset.setSending (some [0xA5])).sending ≠ none := by decide

theorem witness_StatusReportsSetupAndBuffer : (asks 0x01 [] (bench (running 1))).handles ⟨0x01, 0x55, []⟩ [] := by decide
theorem witness_RequestGetsOneReply :
    (asks 0x15 [1] (bench (running 1))).handles ⟨0x15, 0x55, [1]⟩ [] ∧ requestOfKind 0x15 = some .resetRequest ∧
    requestOfKind 0x01 = some .status := by decide
theorem witness_ResetRequestMakesReceiverDeaf :
    (asks 0x15 [] (bench (running 1))).handles ⟨0x15, 0x55, []⟩ [] ∧
    ((asks 0x01 [] State.reset).setResetting true).resetting = true ∧ requestOfKind 0x01 = some .status := by decide
theorem witness_ResetsLeaveResetValues :
    let owing := (bench (running 1)).setResetting true
    (bench (running 1)).inReset = false ∧ (holdInReset (bench (running 1))).inReset = true ∧
    owing.inReset = false ∧ owing.resetting = true ∧ owing.recvList = [] ∧ owing.replySlot = none ∧
    owing.sending = none := by decide

theorem witness_SetupDefineLoadsSetup :
    let small := asks 0x02 (halfBytes 16 ++ halfBytes 1 ++ [byteOf 0]) State.reset
    let large := (asks 0x02 (halfBytes 256 ++ halfBytes 4096 ++ [byteOf 7]) (bench (station .held))).setSetup .loaded
    (small.handles ⟨0x02, 0x55, halfBytes 16 ++ halfBytes 1 ++ [byteOf 0]⟩ [] ∧ small.setup = .none) ∧
    (large.handles ⟨0x02, 0x55, halfBytes 256 ++ halfBytes 4096 ++ [byteOf 7]⟩ [] ∧ large.setup = .loaded ∧
      ∀ p, (large.st p).state ≠ .spinup ∧ (large.st p).state ≠ .dressing) := by decide
theorem witness_SetupCloseTearsDown :
    (asks 0x03 [] (bench (running 1))).handles ⟨0x03, 0x55, []⟩ [] ∧ (asks 0x03 [] (bench (running 1))).setup ≠ .none := by
  decide
theorem witness_WindowWrittenOrEmptied :
    let last : Window := ⟨4095, 255, 0, 0⟩
    let wide : Window := ⟨0, 0, 12, 8⟩
    let s := (bench (running 1)).setFace (some ⟨256, 5462, 171⟩) 0
    let payload (w : Window) : List Byte := [byteOf 3] ++ halfBytes w.baseRow ++ halfBytes w.baseCol ++
      [byteOf w.rowExp, byteOf w.colExp]
    s.setup = .active ∧ (asks 0x05 (payload last) s).handles ⟨0x05, 0x55, payload last⟩ [] ∧
    2 ^ last.rowExp ∣ last.baseRow ∧ 2 ^ last.colExp ∣ last.baseCol ∧
    2 ^ last.rowExp * 2 ^ last.colExp ≤ 3 * s.width * s.height / 4 ∧
    (asks 0x05 (payload wide) s).handles ⟨0x05, 0x55, payload wide⟩ [] ∧ wide.rowExp ≤ 12 ∧ wide.colExp ≤ 8 ∧
    2 ^ wide.rowExp ∣ wide.baseRow ∧ 2 ^ wide.colExp ∣ wide.baseCol ∧
    2 ^ wide.rowExp * 2 ^ wide.colExp ≤ 3 * s.width * s.height / 4 ∧
    (asks 0x06 [byteOf 3] s).handles ⟨0x06, 0x55, [byteOf 3]⟩ [] := by decide
theorem witness_AlignedWindowProtectsItsCells :
    2 ^ (⟨32, 4, 1, 2⟩ : Window).rowExp ∣ (⟨32, 4, 1, 2⟩ : Window).baseRow ∧
    2 ^ (⟨32, 4, 1, 2⟩ : Window).colExp ∣ (⟨32, 4, 1, 2⟩ : Window).baseCol := by decide

/-- A part that expects a row of a face of 2 columns, in a slot of 32 rows or less. -/
def intake (next : Nat) (slot : Slot) : State :=
  { State.reset with
    setup := .loaded, face := some ⟨2, 40, 2⟩, nextRow := next
    slots := (Vector.replicate 2 Slot.cleared).set (slotOf (next / 32)) slot }

theorem witness_RowStoredInItsSlot :
    let first := asks 0x07 (halfBytes 0 ++ [65535, 0].flatMap halfBytes) (intake 0 Slot.cleared)
    let last := asks 0x07 (halfBytes 39 ++ [0, 40000].flatMap halfBytes)
      (intake 39 { slotWith 1 [0, 0, 0, 0, 0, 0, 0] with state := .filling })
    (first.handles ⟨0x07, 0x55, halfBytes first.nextRow ++ [65535, 0].flatMap halfBytes⟩ [] ∧ first.setup = .loaded ∧
      first.nextRow < first.height ∧ [65535, 0].length = first.width ∧ (∀ m ∈ [65535, 0], m < 65536) ∧
      first.slots[slotOf (first.nextRow / 32)].state = .empty) ∧
    (last.handles ⟨0x07, 0x55, halfBytes last.nextRow ++ [0, 40000].flatMap halfBytes⟩ [] ∧
      last.nextRow < last.height ∧ [0, 40000].length = last.width ∧ (∀ m ∈ [0, 40000], m < 65536) ∧
      last.slots[slotOf (last.nextRow / 32)].strip = some (last.nextRow / 32) ∧
      last.slots[slotOf (last.nextRow / 32)].rows + 1 = last.rowsOf (last.nextRow / 32)) := by decide
theorem witness_RowRefusedOutOfOrderOrFull :
    let other := asks 0x07 [2, 0] (intake 1 Slot.cleared)
    let beyond := asks 0x07 [40, 0] (intake 40 Slot.cleared)
    let full := asks 0x07 [32, 0] (intake 32 (slotWith 3 [0]))
    (other.handles ⟨0x07, 0x55, [2, 0]⟩ [] ∧ halfAt [2, 0] 0 ≠ other.nextRow) ∧
    (beyond.handles ⟨0x07, 0x55, [40, 0]⟩ [] ∧ beyond.height ≤ beyond.nextRow) ∧
    (full.handles ⟨0x07, 0x55, [32, 0]⟩ [] ∧ halfAt [32, 0] 0 = full.nextRow ∧ full.nextRow < full.height ∧
      full.slots[slotOf (full.nextRow / 32)].state ≠ .empty ∧
      full.slots[slotOf (full.nextRow / 32)].strip = some 3 ∧ 3 ≠ full.nextRow / 32) := by decide
theorem witness_SlotReleasedWhenAllHaveFinished :
    let s := bench (running 1)
    (s.setup = .active ∧ s.slots[slotOf 0].state = .full ∧ s.members ≠ [] ∧
      ∀ q ∈ s.members, q = 4 ∨ q ∈ s.slots[slotOf 0].finished) ∧
    ¬ ((s.setMembers []).setup = .active ∧ (s.setMembers []).members ≠ []) := by decide

/-- Every field at one end of its range, and at the other. -/
def lowConfig : StationConfig :=
  { scale := 4096, offset := -2000, depthLimit := 1, allowance := 0, bite := 1, finishEnabled := false,
    trigger := .atMark, avgDepth := 1, startPeriod := 1, lead := 0, blank := 0, miss := 65, forcedLimit := 0,
    approach := 1, settle := 1, dressTimeout := 1, hardness := 0, overload := 1, spall := 1 }
def highConfig : StationConfig :=
  { scale := 32768, offset := 2000, depthLimit := 40000, allowance := 500, bite := 1000, finishEnabled := true,
    trigger := .step, avgDepth := 8, startPeriod := 65535, lead := 127, blank := 127, miss := 255, forcedLimit := 3,
    approach := 65535, settle := 255, dressTimeout := 255, hardness := 255, overload := 1023, spall := 2046 }

theorem witness_StationConfigured :
    let off := asks 0x04 (configPayload 4 lowConfig) (bench Station.cleared)
    let idle := asks 0x04 (configPayload 4 highConfig) (bench (station .idle))
    (off.handles ⟨0x04, 0x55, configPayload 4 lowConfig⟩ [] ∧ off.setup = .active ∧ (off.st 4).state = .off) ∧
    (idle.handles ⟨0x04, 0x55, configPayload 4 highConfig⟩ [] ∧ (idle.st 4).state = .idle) ∧
    lowConfig.InRange ∧ highConfig.InRange := by
  refine ⟨by decide, by decide, ?_, ?_⟩ <;> simp [StationConfig.InRange, lowConfig, highConfig]
theorem witness_StartSpinsUpNamedStations :
    let s := asks 0x08 [0x3F] { bench (station .idle) with stations := Vector.replicate 6 (station .idle) }
    s.handles ⟨0x08, 0x55, [0x3F]⟩ [] ∧ s.setup = .active ∧ 1 ≤ (0x3F : Byte).toNat ∧ (0x3F : Byte).toNat ≤ 63 ∧
    (∀ p : StationId, (0x3F : Byte).getLsbD p.val = true → (s.st p).state = .idle) ∧ s.stopLine = false ∧
    s.strip0Released = false := by decide
theorem witness_HoldTakenByState : ∀ park ∈ [false, true], ∀ x ∈ [running 1, station .waiting, station .spinup,
      dressing ⟨4, true, 1, .closing⟩, station .held],
    let s := asks 0x09 (stationPayload 4) (bench { x with parkPending := park })
    s.handles ⟨0x09, 0x55, stationPayload 4⟩ [] ∧ (s.st 4).parkPending = park ∧ (s.st 4).state = x.state := by decide
theorem witness_ResumeAndUnparkSpinUp :
    (∀ x ∈ [station .stalled, station .stopped, { station .held with resumeSpinup := true }],
      (asks 0x0A (stationPayload 4) (bench x)).handles ⟨0x0A, 0x55, stationPayload 4⟩ [] ∧
      ((asks 0x0A (stationPayload 4) (bench x)).st 4).dress.worn = false) ∧
    (asks 0x0C (stationPayload 4) (bench (station .parked))).handles ⟨0x0C, 0x55, stationPayload 4⟩ [] ∧
    ((asks 0x0C (stationPayload 4) (bench (station .parked))).st 4).state = .parked ∧
    ((bench { station .parked with dress := { DressRecord.reset with wear := 301, worn := true } }).st 4).dress.worn =
      true := by decide
theorem witness_HeldStationPlansItsColumn :
    let s := asks 0x0A (stationPayload 4) (bench (station .held))
    s.handles ⟨0x0A, 0x55, stationPayload 4⟩ [] ∧ (s.st 4).state = .held ∧ (s.st 4).resumeSpinup = false ∧
    s.stopLine = false ∧ (s.st 4).dress.worn = false ∧ (s.st 4).dress.owed = 0 := by decide
theorem witness_HeldStationPlansItsColumn_column :
    let idle := bench { station .cutting with work := none }
    let early := bench { station .cutting with work := none, strip := 1 }
    let flat := work .finish [300, 340, 380, 420]
    let rough := work .finish [200, 240, 280, 320]
    let skips := bench { station .cutting with work := some flat }
    let runs := bench { station .cutting with work := some rough }
    ((idle.st 4).state = .cutting ∧ (idle.st 4).work = none ∧ idle.slots[slotOf (idle.st 4).strip].state = .full ∧
      idle.slots[slotOf (idle.st 4).strip].strip = some (idle.st 4).strip) ∧
    ((early.st 4).work = none ∧ early.slots[slotOf (early.st 4).strip].state ≠ .full) ∧
    ((skips.st 4).work = some flat ∧ flat.column < skips.width ∧ (buildPlan skips (skips.st 4) flat).runCut = 0) ∧
    ((runs.st 4).work = some rough ∧ rough.column < runs.width ∧ (buildPlan runs (runs.st 4) rough).runCut ≠ 0) := by
  decide
theorem witness_HeldStationPlansItsColumn_passEnd :
    let w (phase : Phase) (left : Nat) : Work := { work phase [300] with column := 16, remaining := left }
    let s (v : Work) : State := bench (passEnd v)
    let owing := bench { passEnd (w .finish 0) with dress := { DressRecord.reset with owed := 1 } }
    let tall := { s (w .finish 0) with face := some ⟨16, 33, 2⟩ }
    (∀ v ∈ [w .rough 1, w .rough 0, w .finish 0],
      ((s v).st 4).state = .cutting ∧ ((s v).st 4).work = some v ∧ (s v).width ≤ v.column) ∧
    (w .rough 1).remaining ≠ 0 ∧ ((w .rough 0).phase = .rough ∧ ((s (w .rough 0)).st 4).cfg.finishEnabled = true) ∧
    (owing.st 4).dress.owed ≠ 0 ∧ (tall.st 4).strip + 1 < tall.strips ∧
    (s (w .finish 0)).strips ≤ ((s (w .finish 0)).st 4).strip + 1 := by decide
theorem witness_ParkTakenByState : ∀ x ∈ [station .idle, station .done, station .waiting, station .held, running 1,
      dressing ⟨4, true, 1, .closing⟩],
    (asks 0x0B (stationPayload 4) (bench x)).handles ⟨0x0B, 0x55, stationPayload 4⟩ [] := by decide
theorem witness_AbortShutsStationOff :
    let s := asks 0x0D (stationPayload 4) (bench (running 1))
    s.handles ⟨0x0D, 0x55, stationPayload 4⟩ [] ∧ (s.st 4).state ≠ .off ∧ s.members = [4] ∧ s.setup = .active ∧
    4 ∉ (s.setMembers [0]).members := by decide
theorem witness_AbortShutsStationOff_others :
    let s := { asks 0x0D (stationPayload 4) (bench (running 1)) with
      members := [3, 4], slots := (Vector.replicate 2 Slot.cleared).set 0 { slotWith 0 [300] with finished := [3] } }
    let left := s.members.filter (fun q => decide (q ≠ 4))
    s.handles ⟨0x0D, 0x55, stationPayload 4⟩ [] ∧ (s.st 4).state ≠ .off ∧ 4 ∈ s.members ∧ left ≠ [] ∧
    (s.setup = .active ∧ s.slots[(0 : Fin 2)].state = .full ∧ ∀ q ∈ left, q ∈ s.slots[(0 : Fin 2)].finished) ∧
    s.slots[(1 : Fin 2)].state ≠ .full ∧ ¬ (∀ q ∈ left, (s.st q).state = .done) := by decide
theorem witness_StopLineStopsWorkingStations :
    (bench (running 1)).inReset = false ∧ (bench (running 1)).stopLine = false ∧
    ((bench (station .stopped)).setStopLine true).stopLine = true := by decide
theorem witness_StationStatusRecordLayout :
    (asks 0x11 (stationPayload 4) (bench (running 1))).handles ⟨0x11, 0x55, stationPayload 4⟩ [] ∧
    ((bench (running 1)).st 4).plan = some (slowRun 1) ∧
    ((bench (running 1)).st 4).work = some (work .finish [200, 240, 280, 320]) ∧
    ((bench (dressing ⟨4, true, 1, .closing⟩)).st 4).work = none ∧ ((bench (running 1)).st 4).dress.ref = none := by decide
theorem witness_ReadStockReportsDepths :
    let payload : List Byte := [byteOf 4, byteOf 3] ++ halfBytes 0 ++ halfBytes 16
    let s := asks 0x12 payload (bench (running 1))
    s.handles ⟨0x12, 0x55, payload⟩ [] ∧ (s.st 4).work = some (work .finish [200, 240, 280, 320]) ∧
    3 < s.rowsOf (s.st 4).strip ∧ s.width ≤ 256 ∧ 0 + 16 ≤ s.width := by decide

theorem witness_ScaledTargetRoundsHalfUp : 40000 ≤ 40000 ∧ 32768 ≤ 32768 ∧ 2 * (1 * 4096) < 16384 := by decide
theorem witness_TargetStaysWithinLimit :
    ((scaledTarget 100 lowConfig.scale : Int) + lowConfig.offset < 0) ∧
    ((config.depthLimit : Int) < (scaledTarget 5001 config.scale : Int) + config.offset) ∧
    ((scaledTarget 5000 config.scale : Int) + config.offset ≤ config.depthLimit) := by decide
theorem witness_PhaseTargetByPhase :
    config.allowance < 21 ∧ 20 ≤ config.allowance ∧ 3 < (bench (running 1)).rowsOf ((bench (running 1)).st 4).strip := by
  decide
theorem witness_PlannedDepthWithinBite :
    (cellPlan false 300 100 8 250).cut = true ∧ (cellPlan false 300 100 8 250).depth < 250 + 100 ∧
    (cellPlan true 300 100 8 250).cut = false := by decide
theorem witness_ShortCellsAreCut :
    (cellPlan false 300 100 0 0).short = true ∧ (cellPlan false 300 300 0 0).depth = 300 ∧
    ((bench (running 4)).st 4).work = some (work .finish [200, 240, 280, 320]) := by decide
theorem witness_PassesDeepenByOneBite : 1 ≤ 1 ∧ ((0 + 100 - 1) / 100 ≤ 0) ∧ (250 + 100 - 1) / 100 ≤ 3 := by decide
theorem witness_CapturesStoredAndAveraged :
    let x := running 1
    x.config = some config ∧ 1 ≤ config.avgDepth ∧ x.captures ≠ [] ∧ (∀ v ∈ x.captures, 1 ≤ v ∧ v ≤ 65535) ∧
    [1, 65535, 3, 4, 5, 6, 7, 8].length = 8 ∧ (∀ c ∈ [1, 65535, 3, 4, 5, 6, 7, 8], 1 ≤ c ∧ c ≤ 65535) := by decide

theorem witness_MarkEntersFirstCell :
    let s := bench (running 0)
    s.inReset = false ∧ (1023 : BitVec 16).toNat ≤ 1023 ∧ (s.st 4).state = .cutting ∧
    (s.st 4).cfg.trigger = .atMark ∧ (s.st 4).timers.blank = none ∧ (s.st 4).plan = some (slowRun 0) ∧
    (slowRun 0).next = 0 ∧ 1 ≤ (slowRun 0).rows := by decide
theorem witness_MarkEntersFirstCell_lead :
    let s := bench { running 0 with config := some { config with trigger := .lead } }
    (s.st 4).state = .cutting ∧ (s.st 4).cfg.trigger = .lead ∧ (s.st 4).timers.blank = none ∧
    (s.st 4).plan = some (slowRun 0) ∧ (slowRun 0).pendingSetpoint = none ∧ 2 ≤ (slowRun 0).rows ∧
    (s.st 4).period * (s.st 4).cfg.lead / 128 ≠ 0 := by decide
theorem witness_MarkLeavesCutCell_late :
    let pl := { slowRun 3 with pendingSetpoint := some 420 }
    let s := bench { running 3 with config := some { config with trigger := .lead }, plan := some pl }
    (s.st 4).cfg.trigger = .lead ∧ (s.st 4).plan = some pl ∧ (s.st 4).captureRef = some 200 ∧
    pl.next + 1 = pl.rows ∧ (pl.cell (pl.next - 1)).cut = true := by decide
theorem witness_MarkLeavesCutCell_exit :
    let s := bench { running 4 with parkPending := true }
    (s.st 4).cfg.trigger ≠ .step ∧ (s.st 4).plan = some (slowRun 4) ∧ (slowRun 4).next = (slowRun 4).rows ∧
    (s.st 4).parkPending = true ∧ ((bench (running 4)).st 4).parkPending = false ∧
    ((slowRun 4).cell ((slowRun 4).next - 1)).cut = true := by decide
theorem witness_MarkLeavesCutCell : ∀ j ∈ [1, 3],
    let s := bench (running j)
    s.inReset = false ∧ (s.st 4).state = .cutting ∧ (s.st 4).cfg.trigger = .atMark ∧ (s.st 4).timers.blank = none ∧
    (s.st 4).plan = some (slowRun j) ∧ (s.st 4).work = some (work .finish [200, 240, 280, 320]) ∧
    (s.st 4).captureRef = some 200 ∧ 1 ≤ (slowRun j).next ∧ (slowRun j).next < (slowRun j).rows ∧
    ((slowRun j).cell ((slowRun j).next - 1)).cut = true := by decide
theorem witness_MarkIgnoredOrChatter :
    (bench (running 1)).inReset = false ∧ ((bench (station .held)).st 4).state ≠ .cutting ∧
    ((bench (stepping 1)).st 4).cfg.trigger = .step ∧
    ((bench { running 1 with timers := { Timers.stopped with blank := some 650 } }).st 4).timers.blank ≠ none := by decide
theorem witness_StepEntersNextCell : ∀ j ∈ [0, 3],
    let s := asks 0x0E (stationPayload 4) (bench (stepping j))
    s.handles ⟨0x0E, 0x55, stationPayload 4⟩ [] ∧ (s.st 4).state = .cutting ∧ (s.st 4).cfg.trigger = .step ∧
    (s.st 4).plan = some (slowRun j) ∧ (slowRun j).next < (slowRun j).rows ∧ config.trigger ≠ .step := by decide
theorem witness_LeadAndBlankTimersExpire : ∀ d ∈ [600, 599, 601],
    let s := bench { running 1 with
      plan := some { slowRun 1 with pendingSetpoint := some 587 }
      timers := { Timers.stopped with lead := some d, blank := some d } }
    s.inReset = false ∧ (s.st 4).state = .cutting ∧ (s.st 4).timers.lead = some d ∧
    (s.st 4).plan.bind Plan.pendingSetpoint = some 587 ∧ (s.st 4).timers.blank = some d ∧
    (d ≤ s.tick ∨ d = 601 ∧ s.tick < d) := by decide
theorem witness_MissForcesAdvance : ∀ j ∈ [1, 3], ∀ d ∈ [600, 601],
    let s := bench { running j with timers := { Timers.stopped with miss := some d } }
    s.inReset = false ∧ (s.st 4).state = .cutting ∧ (s.st 4).timers.miss = some d ∧ (s.st 4).timers.lead = none ∧
    (s.st 4).cfg.trigger = .atMark ∧ (s.st 4).plan = some (slowRun j) ∧ 1 ≤ (slowRun j).next ∧
    (slowRun j).next < (slowRun j).rows ∧ (s.st 4).counts.forcedRun < (s.st 4).cfg.forcedLimit ∧
    (s.st 4).timers.blank = none ∧ after (.mark 4 0 false) s State.tick = some 600 ∧
    (d ≤ s.tick ∨ d = 601 ∧ s.tick < d) := by decide
theorem witness_TimeoutsStallTheStation :
    let s := bench { running 4 with
      counts := { Counts.zero with forcedRun := 1 }
      timers := { Timers.stopped with miss := some 600, approach := some 600 } }
    let d := bench (dressing ⟨2, true, 3, .owed .runEnd⟩)
    s.inReset = false ∧ (s.st 4).state = .cutting ∧ (s.st 4).timers.approach = some 600 ∧ 600 ≤ s.tick ∧
    (s.st 4).timers.miss = some 600 ∧ (s.st 4).timers.lead = none ∧ (s.st 4).plan = some (slowRun 4) ∧
    1 ≤ (slowRun 4).next ∧ (slowRun 4).next ≤ (slowRun 4).rows ∧
    (s.st 4).cfg.forcedLimit ≤ (s.st 4).counts.forcedRun ∧
    (d.st 4).state = .dressing ∧ (d.st 4).timers.dress = some 600 ∧ (d.setTick 599).tick < 600 := by decide
theorem witness_ResidualOfALoad : 255 ≤ 255 ∧ 1000 ≤ 1000 ∧ 1023 ≤ 1023 ∧ 1023 ≤ 255 * 1000 / 16 := by decide
theorem witness_OverloadHalvesBiteAndSpallHolds : ∀ q ∈ [15, 455],
    let s := bench { running 2 with prevResidual := some q }
    let e := (slowRun 2).cell ((slowRun 2).next - 1)
    s.inReset = false ∧ (s.st 4).state = .cutting ∧ (s.st 4).cfg.trigger = .atMark ∧ (s.st 4).timers.blank = none ∧
    (s.st 4).plan = some (slowRun 2) ∧ (s.st 4).work = some (work .finish [200, 240, 280, 320]) ∧
    (s.st 4).parkPending = false ∧ 1 ≤ (slowRun 2).next ∧ (slowRun 2).next < (slowRun 2).rows ∧ e.cut = true ∧
    ((config.overload : Int) < residual config.hardness (e.depth - e.stock) 400) ∧
    (q = 455 → (config.spall : Int) < q - residual config.hardness (e.depth - e.stock) 400) := by decide

theorem witness_ClosingDressingBegins :
    let s := (bench { station .spinup with timers := { Timers.stopped with settle := some 21080 } }).setTick 21080
    s.inReset = false ∧ (s.st 4).state = .spinup ∧ (s.st 4).timers.settle = some 21080 ∧ 21080 ≤ s.tick ∧
    (s.setTick 21079).tick < 21080 := by decide
theorem witness_DressedCompletesOrIsIgnored :
    let fresh := bench { dressing ⟨4, true, 1, .closing⟩ with ret := .idle }
    let old := bench { dressing ⟨4, true, 1, .closing⟩ with
      dress := { (dressing ⟨4, true, 1, .closing⟩).dress with ref := some 52000, wear := 300 } }
    (∀ s ∈ [fresh, old], s.inReset = false ∧ (s.st 4).state = .dressing ∧
      (s.st 4).dress.inFlight = some ⟨4, true, (1 : BitVec 4).toNat, .closing⟩ ∧ (s.st 4).dress.worn = false ∧
      (s.st 4).dress.wear ≤ 300 ∧ (s.st 4).parkPending = false) ∧
    ((fresh.st 4).ret = .idle ∧ (fresh.st 4).dress.ref = none) ∧
    ((old.st 4).dress.ref = some 52000 ∧ 300 < 52000 - (51699 : BitVec 16).toNat) ∧
    ((bench (station .stalled)).st 4).state ≠ .dressing := by decide
theorem witness_DressedCompletesOrIsIgnored_owed :
    let x := dressing ⟨2, false, 2, .owed .runEnd⟩
    let s := bench { x with dress := { x.dress with owed := 2, mode := .half } }
    s.inReset = false ∧ (s.st 4).state = .dressing ∧
    (s.st 4).dress.inFlight = some ⟨2, false, (2 : BitVec 4).toNat, .owed .runEnd⟩ ∧ (s.st 4).dress.worn = false ∧
    (s.st 4).parkPending = false ∧ (s.st 4).holdPending = false ∧ 2 ≤ (s.st 4).dress.owed ∧
    (CallPoint.runEnd ≠ .stripDone ∧
      ((bench { x with dress := { x.dress with owed := 1 } }).st 4).dress.owed = 1) := by decide
theorem witness_CutCountsAndGaugeResults :
    let r := { DressRecord.reset with mode := .half, interval := 1000, due := 499, ref := some 52000 }
    r.interval / 2 ≤ r.due + 1 ∧ { r with due := 498 }.due + 1 < r.interval / 2 ∧ r.ref = some 52000 ∧
    r.worn = false ∧ { r with worn := true }.worn = true := by decide
theorem witness_DressingRecordRequests :
    let low := asks 0x0F ([byteOf 4, DressMode.full.code] ++ halfBytes 64) (bench (station .held))
    let high := asks 0x0F ([byteOf 4, DressMode.quarter.code] ++ halfBytes 65532)
      (bench { station .held with dress := { DressRecord.reset with qsum := 3 } })
    (low.handles ⟨0x0F, 0x55, [byteOf 4, DressMode.full.code] ++ halfBytes 64⟩ [] ∧ 4 ∣ 64 ∧
      (low.st 4).dress.qsum = 0) ∧
    (high.handles ⟨0x0F, 0x55, [byteOf 4, DressMode.quarter.code] ++ halfBytes 65532⟩ [] ∧ 4 ∣ 65532 ∧
      (high.st 4).dress.qsum ≠ 0) ∧
    ∀ st ∈ [StationState.parked, .idle, .off, .stopped],
      (asks 0x10 (stationPayload 4) (bench (station st))).handles ⟨0x10, 0x55, stationPayload 4⟩ [] := by decide

theorem witness_FlagSetQueuesSourceOnce :
    let s := { bench { station .cutting with notices := ⟨0x001, 0x1FE⟩ } with noticeQueue := [.station 4] }
    (s.noticeSets (.station 4)).pending.getLsbD 0 = true ∧ (s.noticeSets (.station 4)).pending.getLsbD 8 = false ∧
    (s.noticeSets (.station 4)).enabled.getLsbD 8 = true ∧ Source.station 4 ∈ s.noticeQueue ∧
    Source.global ∉ s.noticeQueue ∧ (s.noticeSets (.station 4)).enabled.getLsbD 15 = false := by decide
theorem witness_NoticeMaskAndClearAnswered :
    let payload := (Source.station 4).number :: halfBytes (0x1FF : FlagSet).toNat
    (0x1FF : FlagSet) &&& ~~~ (Source.station 4).allFlags = 0 ∧ (0xF : FlagSet) &&& ~~~ Source.global.allFlags = 0 ∧
    (asks 0x13 payload (bench (running 1))).handles ⟨0x13, 0x55, payload⟩ [] ∧
    (asks 0x14 payload (bench (running 1))).handles ⟨0x14, 0x55, payload⟩ [] := by decide
theorem witness_FullQueueTakesOnlyStops :
    let mixed := List.replicate 15 DriveCmd.lift ++ [.spinOn]
    let lifts := List.replicate 16 DriveCmd.lift
    mixed.length = 16 ∧ (mixed.tail.filter (fun d => decide (d = .lift ∨ d = .spinOff))).length < 15 ∧
    15 ≤ (lifts.tail.filter (fun d => decide (d = .lift ∨ d = .spinOff))).length ∧ DriveCmd.lift ∈ lifts.tail ∧
    DriveCmd.spinOff ∉ lifts.tail ∧ (List.replicate 15 DriveCmd.lift).length < 16 := by decide
theorem witness_DrivePortWords :
    let s := bench { running 1 with port := { queue := [.lift], partialWord := [] } }
    s.inReset = false ∧ (s.st 4).port.queue = .lift :: [] ∧ (s.st 4).port.partialWord = [] ∧
    crc8 [0x81, 0xFF, 0x03, 0x01] ≠ crc8 [0x81, 0xFF, 0x03, 0x01] + 1 ∧
    1023 < (0x00 : Byte).toNat + 256 * (0x04 : Byte).toNat ∧ 1 < (0x02 : Byte).toNat ∧
    (0x10 : Byte) &&& 0x70 ≠ 0 := by decide +kernel

/-- A part at work, in which every condition that steps keep stands at a bound. -/
def busy : State :=
  { bench { running 1 with
      captures := [1, 65535, 400, 400, 400, 400, 400, 400]
      counts := ⟨65535, 65535, 255, 65535, 1, 65535, 65535⟩
      dress := { DressRecord.reset with qsum := 3, wear := 300, owed := 65535 }
      port := { queue := List.replicate 16 .lift, partialWord := [] } } with
    recvList := List.replicate 4 (.frame ⟨1, 0, []⟩) ++ List.replicate 4 (.note 0 .overrun)
    receiver := .deaf, noticeQueue := [.global, .station 4], sending := some [0xA5], pending := [.mark 4 0 false] }

theorem witness_ListsAndQueuesStayBounded :
    busy.ListBounded ∧ busy.QueueOnce ∧ busy.PortsBounded ∧ busy.FreeHasNothingToSend ∧
    (bench (running 1)).FreeHasNothingToSend ∧ after (.mark 4 0 false) busy State.receiver = some .deaf := by
  refine ⟨?_, ?_, ?_, ?_, ?_, by decide⟩
  · unfold State.ListBounded; decide
  · unfold State.QueueOnce; decide
  · unfold State.PortsBounded; decide
  · unfold State.FreeHasNothingToSend; decide
  · unfold State.FreeHasNothingToSend; decide
theorem witness_StationCountsStayInRange :
    busy.HistoryBounded ∧ busy.QuartersInRange ∧ busy.ForcedWithinLimit ∧ busy.CountsBounded ∧
    after (.mark 4 0 false) busy (fun t => (t.st 4).captures.length) = some 8 := by
  refine ⟨?_, ?_, ?_, ?_, by decide⟩
  · unfold State.HistoryBounded; decide
  · unfold State.QuartersInRange; decide
  · intro p c h
    have : ∀ p, (busy.st p).config = none ∨ (busy.st p).config = some config ∧ (busy.st p).counts.forcedRun ≤ 1 := by
      decide
    rcases this p with e | ⟨e, l⟩ <;> rw [e] at h
    · cases h
    · cases h; exact l
  · have counts : ∀ p, (busy.st p).counts.clamp ≤ 65535 ∧ (busy.st p).counts.skipped ≤ 65535 ∧
        (busy.st p).counts.chatter ≤ 255 ∧ (busy.st p).counts.late ≤ 65535 ∧ (busy.st p).counts.forcedTotal ≤ 65535 ∧
        (busy.st p).counts.overload ≤ 65535 ∧ (busy.st p).dress.owed ≤ 65535 := by decide
    have passes : ∀ p, (busy.st p).work = none ∨ (busy.st p).work.map Work.pass = some 2 := by decide
    intro p
    obtain ⟨h1, h2, h3, h4, h5, h6, h7⟩ := counts p
    refine ⟨h1, h2, h3, h4, h5, h6, h7, fun w hw => ?_⟩
    rcases passes p with e | e <;> rw [hw] at e
    · cases e
    · simp only [Option.map_some, Option.some.injEq] at e; omega
theorem witness_SlotsAndMembersKeepTheirForm :
    busy.SlotsPlaced ∧ busy.SamplesClamped ∧ busy.MembersOnce ∧
    after (.mark 4 0 false) busy State.members = some [4] := by
  refine ⟨?_, by unfold State.SamplesClamped; decide, ?_, by decide⟩
  · intro i k h
    have : ∀ i : Fin 2, busy.slots[i].strip = none ∨ busy.slots[i].strip = some i.val := by decide
    rcases this i with e | e <;> rw [e] at h
    · cases h
    · cases h; have := i.isLt; omega
  · unfold State.MembersOnce; decide
theorem witness_NothingMovesWhileStopLineAsserted :
    let s := (bench (station .stopped)).setStopLine true
    s.StoppedWhileAsserted ∧ s.stopLine = true ∧ after .transmitterFree s State.stopLine = some true := by
  unfold State.StoppedWhileAsserted
  decide
theorem witness_WornToolsRestAndWearNeverFalls :
    let s := bench { station .parked with dress := { DressRecord.reset with wear := 301, worn := true } }
    s.WornStationsRest ∧ after (.mark 4 0 false) s (fun t => (t.st 4).dress.wear) = some 301 := by
  refine ⟨?_, by decide⟩
  intro p
  have : ∀ p : StationId, p = 4 ∨ p ≠ 4 := by decide
  rcases this p with rfl | h
  · exact ⟨fun _ => rfl, fun _ => ⟨by decide, by decide, fun f hf => absurd hf (by decide)⟩⟩
  · have : ∀ p : StationId, p ≠ 4 → ((bench { station .parked with
        dress := { DressRecord.reset with wear := 301, worn := true } }).st p).dress = DressRecord.reset := by decide
    exact ⟨fun k => absurd k (by rw [this p h]; decide), fun k => absurd k (by rw [this p h]; decide)⟩
theorem witness_OffStationLeavesOnlyByConfig : ∀ c ∈ [Instr.start, .mark 0 0 true, .settleExpiry 0],
    c ≠ .stationConfig ∧ ((bench (running 1)).st 0).state = .off ∧
    after c (bench (running 1)) (fun t => (t.st 0).state) = some .off := by decide
theorem witness_DriveEventTouchesOneStation :
    (4 : StationId) ≠ 3 ∧ after (.mark 4 0 false) (bench (running 1)) (fun t => t.st 3) =
      some ((bench (running 1)).st 3) := by decide

end Sys2Proof.Tests
end

section
/-! Proofs about the depth arithmetic of a cell: the scaled target (R34) and the short flag (R44). -/

namespace Sys2Proof.Machine

/-! ## The scaled target -/

/-- `scaledTarget` is the whole number of the half-open interval that rounding half up names (R34). -/
theorem scaledTarget_bounds (m scale : Nat) :
    16384 * scaledTarget m scale ≤ m * scale + 8192 ∧
    m * scale + 8192 < 16384 * (scaledTarget m scale + 1) :=
  ⟨Nat.mul_div_le _ _, Nat.lt_mul_div_succ _ (by decide)⟩

/-- The full size, scale 16384, leaves a depth as it is (R34). -/
theorem scaledTarget_full (m : Nat) : scaledTarget m 16384 = m := by
  have := scaledTarget_bounds m 16384
  omega

/-- The product of a clamped sample and the greatest scale (R34). -/
theorem sample_mul_scale_le {m scale : Nat} (hm : m ≤ 40000) (hs : scale ≤ 32768) : m * scale ≤ 1310720000 :=
  Nat.mul_le_mul hm hs

/-! ## The samples -/

/-- What holds of every element and of the default holds of a read. -/
theorem getD_of_forall_mem {α : Type} {P : α → Prop} {l : List α} {d : α} (n : Nat)
    (hd : P d) (h : ∀ v ∈ l, P v) : P (l.getD n d) := by
  by_cases hn : n < l.length
  · rw [List.getD_eq_getElem _ _ hn]
    exact h _ (List.getElem_mem hn)
  · rwa [List.getD_eq_default _ _ (Nat.le_of_not_lt hn)]

/-- A table bounded in every entry is bounded at every position, also outside it. -/
theorem cellAt_le {table : List (List Nat)} {b : Nat} (h : ∀ row ∈ table, ∀ v ∈ row, v ≤ b) (row col : Nat) :
    cellAt table row col ≤ b := by
  have hrow : ∀ v ∈ table.getD row [], v ≤ b :=
    getD_of_forall_mem (P := fun r => ∀ v ∈ r, v ≤ b) row (by simp) h
  exact getD_of_forall_mem (P := (· ≤ b)) col (Nat.zero_le b) hrow

/-- The samples that planning reads are bounded as the slots are (R23). -/
theorem State.SamplesClamped.sample_le {s : State} (h : s.SamplesClamped) (k j col : Nat) :
    s.sample k j col ≤ 40000 :=
  cellAt_le (h (slotOf k)) j col

/-- Settles O29: rounding is the interval of `scaledTarget_bounds`, the ranges follow from that of the product. -/
theorem scaledTargetRoundsHalfUp : Obligations.ScaledTargetRoundsHalfUp := by
  refine ⟨fun m scale => rfl, fun m scale hm hs => ?_, scaledTarget_full, rfl, fun s h => h.sample_le⟩
  have product := sample_mul_scale_le hm hs
  obtain ⟨lower, upper⟩ := scaledTarget_bounds m scale
  refine ⟨product, ?_, ?_, ?_, ?_, ?_, fun below => ?_⟩ <;> omega

/-! ## The cell plan -/

section
variable {guarded : Bool} {tp beff wear d : Nat}

/-- The cut decision (R42). -/
theorem cellPlan_cut_iff :
    (cellPlan guarded tp beff wear d).cut = true ↔ guarded = false ∧ d < min tp (d + beff) := by
  simp [cellPlan, isCut]

/-- A cell that is not cut keeps its depth (R43). -/
theorem cellPlan_depth_of_not_cut (h : ¬ (cellPlan guarded tp beff wear d).cut = true) :
    (cellPlan guarded tp beff wear d).depth = d :=
  if_neg h

/-- The short flag (R44). -/
theorem cellPlan_short_iff :
    (cellPlan guarded tp beff wear d).short = true ↔
      guarded = false ∧ (cellPlan guarded tp beff wear d).depth < tp := by
  simp [cellPlan]

/-- With a bite of at least 1 a short cell is cut: uncut it would stand at its stock depth, below the target, and
that is the cut decision. -/
theorem cellPlan_cut_of_short (hb : 1 ≤ beff) (h : (cellPlan guarded tp beff wear d).short = true) :
    (cellPlan guarded tp beff wear d).cut = true := by
  obtain ⟨unguarded, below⟩ := cellPlan_short_iff.mp h
  by_contra uncut
  rw [cellPlan_depth_of_not_cut uncut] at below
  exact uncut (cellPlan_cut_iff.mpr ⟨unguarded, by omega⟩)

/-- A protected cell and a cell that reaches its phase target are the cells that are not short (R44). -/
theorem cellPlan_not_short_iff :
    (cellPlan guarded tp beff wear d).short = false ↔
      guarded = true ∨ tp ≤ (cellPlan guarded tp beff wear d).depth := by
  rw [Bool.eq_false_iff, Ne, cellPlan_short_iff, not_and_or, Bool.not_eq_false, Nat.not_lt]

end

/-! ## The counts of a plan -/

theorem buildPlan_shortCount (s : State) (x : Station) (w : Work) :
    (buildPlan s x w).shortCount = (buildPlan s x w).cells.countP CellPlan.short := rfl

theorem buildPlan_runCut (s : State) (x : Station) (w : Work) :
    (buildPlan s x w).runCut = (buildPlan s x w).cells.countP CellPlan.cut := rfl

/-- A command issued leaves the station's strip in work as it was (R166). -/
theorem issue_st_work (p : StationId) (c : DriveCmd) (s : State) : ((issue p c s).st p).work = (s.st p).work := by
  simp [issue]

/-- The end of a run adds the short count to the remaining count and advances the column (R58, R88). -/
theorem closeRun_work {p : StationId} {s : State} {w : Work} (pl : Plan) (h : (s.st p).work = some w) :
    ((closeRun p pl s).st p).work =
      some { w with remaining := w.remaining + pl.shortCount, column := w.column + 1 } := by
  simp [closeRun, issue_st_work, h]

/-- Settles O33: the short flag by `cellPlan_short_iff`, the counts from the plan's build and the run's end. -/
theorem shortCellsAreCut : Obligations.ShortCellsAreCut :=
  ⟨fun _ _ _ _ _ => ⟨cellPlan_short_iff, cellPlan_cut_of_short,
      fun reached => cellPlan_not_short_iff.mpr (.inr reached.ge),
      fun protect => cellPlan_not_short_iff.mpr (.inl protect)⟩,
    fun s x w => ⟨buildPlan_shortCount s x w, buildPlan_runCut s x w⟩,
    fun _ _ pl _ h => closeRun_work pl h⟩

end Sys2Proof.Machine
end

section
/-! Proofs about cell timing: the captures stored, their history and the averaged period (R75 to R77). -/

namespace Sys2Proof.Machine

/-! ## Captures -/

/-- The stored value by the three ranges of the raw capture (R75). -/
theorem storedCapture_eq (raw : Nat) :
    storedCapture raw = if raw = 0 then 1 else if 65535 < raw then 65535 else raw := by
  unfold storedCapture
  split_ifs <;> omega

/-- A stored capture is in range, whatever the raw one (R75). -/
theorem storedCapture_range (raw : Nat) : 1 ≤ storedCapture raw ∧ storedCapture raw ≤ 65535 :=
  ⟨Nat.le_max_left _ _, Nat.max_le.mpr ⟨by decide, Nat.min_le_left _ _⟩⟩

/-! ## The history -/

section
variable {history : List Nat}

/-- A history below 8 captures keeps them all (R75). -/
theorem pushCapture_of_length_lt (raw : Nat) (h : history.length < 8) :
    pushCapture raw history = storedCapture raw :: history :=
  List.take_of_length_le (Nat.succ_le_of_lt h)

/-- A history of 8 captures loses the one at its tail (R75). -/
theorem pushCapture_of_length_eq (raw : Nat) (h : history.length = 8) :
    pushCapture raw history = storedCapture raw :: history.dropLast := by
  rw [List.dropLast_eq_take, h]
  rfl

theorem pushCapture_length_le (raw : Nat) (history : List Nat) : (pushCapture raw history).length ≤ 8 :=
  List.length_take_le _ _

/-- A capture of the new history is the stored one or was in the history before. -/
theorem eq_or_mem_of_mem_pushCapture {raw v : Nat} (h : v ∈ pushCapture raw history) :
    v = storedCapture raw ∨ v ∈ history :=
  List.mem_cons.mp (List.mem_of_mem_take h)

theorem pushCapture_range (raw : Nat) (h : ∀ v ∈ history, 1 ≤ v ∧ v ≤ 65535) :
    ∀ v ∈ pushCapture raw history, 1 ≤ v ∧ v ≤ 65535 := by
  intro v hv
  obtain rfl | old := eq_or_mem_of_mem_pushCapture hv
  · exact storedCapture_range raw
  · exact h v old

end

/-! ## The averaged period -/

/-- The averaging depth is at least 1, so the newest captures of a history that holds one are not empty. -/
theorem take_ne_nil_of_pos {l : List Nat} {n : Nat} (hn : 1 ≤ n) (hl : l ≠ []) : l.take n ≠ [] := by
  rw [Ne, List.take_eq_nil_iff, not_or]
  exact ⟨by omega, hl⟩

/-- The floor of the average of bounded values is bounded as they are. -/
theorem average_range {l : List Nat} {a b : Nat} (hl : l ≠ []) (h : ∀ v ∈ l, a ≤ v ∧ v ≤ b) :
    a ≤ l.sum / l.length ∧ l.sum / l.length ≤ b := by
  have lower : l.length • a ≤ l.sum := List.card_nsmul_le_sum l a fun v hv => (h v hv).1
  have upper : l.sum ≤ l.length • b := List.sum_le_card_nsmul l b fun v hv => (h v hv).2
  rw [smul_eq_mul] at lower upper
  exact ⟨(Nat.le_div_iff_mul_le (List.length_pos_of_ne_nil hl)).mpr (by rwa [Nat.mul_comm]),
    Nat.div_le_of_le_mul upper⟩

section
variable {x : Station} {c : StationConfig}

/-- With an empty history P is the starting period (R76). -/
theorem Station.period_of_captures_nil (hc : x.config = some c) (h : x.captures = []) :
    x.period = c.startPeriod := by
  simp [Station.period, hc, h]

/-- With a history P is the floor of the average of the newest captures, as many as the averaging depth (R76). -/
theorem Station.period_of_captures_ne_nil (hc : x.config = some c) (hn : 1 ≤ c.avgDepth) (h : x.captures ≠ []) :
    x.period = (x.captures.take c.avgDepth).sum / (x.captures.take c.avgDepth).length := by
  simp [Station.period, hc, take_ne_nil_of_pos hn h]

/-- P is in range with the starting period and the captures (R75, R76). -/
theorem Station.period_range (hc : x.config = some c) (hn : 1 ≤ c.avgDepth)
    (hp : 1 ≤ c.startPeriod ∧ c.startPeriod ≤ 65535) (hv : ∀ v ∈ x.captures, 1 ≤ v ∧ v ≤ 65535) :
    1 ≤ x.period ∧ x.period ≤ 65535 := by
  by_cases h : x.captures = []
  · rwa [Station.period_of_captures_nil hc h]
  · rw [Station.period_of_captures_ne_nil hc hn h]
    exact average_range (take_ne_nil_of_pos hn h) fun v hm => hv v (List.mem_of_mem_take hm)

end

/-- Settles O35: the clauses are the stored value, the history's cases and range, and the period's cases and range. -/
theorem capturesStoredAndAveraged : Obligations.CapturesStoredAndAveraged := by
  refine ⟨storedCapture_eq, fun raw history => ⟨pushCapture_of_length_lt raw, pushCapture_of_length_eq raw,
    fun _ range => ⟨pushCapture_length_le raw history, pushCapture_range raw range⟩⟩, fun x c hc hn => ?_⟩
  refine ⟨Station.period_of_captures_nil hc, fun h => ?_, fun h1 h2 => Station.period_range hc hn ⟨h1, h2⟩⟩
  rw [Station.period_of_captures_ne_nil hc hn h, List.length_take]

end Sys2Proof.Machine
end

section
/-! What one command can do to a station and to the part around it, said once: the moves of a station, the acts of a
command, and every operation of a station as a chain of acts. The kept conditions are derived from the acts. -/

namespace Sys2Proof.Machine

/-! ## Moves of a station -/

/-- What the kept conditions read of a station. -/
structure View where
  state : StationState
  config : Option StationConfig
  captures : List Nat
  counts : Counts
  dress : DressRecord
  queue : List DriveCmd
  pass : Option Nat

/-- A station as the kept conditions see it. -/
def Station.view (x : Station) : View :=
  { state := x.state, config := x.config, captures := x.captures, counts := x.counts, dress := x.dress
    queue := x.port.queue, pass := x.work.map Work.pass }

/-- The tool is not worn, or the station is where only a tool that is not worn is used (R131). -/
def View.serves (v : View) : Prop := v.dress.worn = false ∨ v.state = .cutting ∨ v.state = .waiting

/-- The counts of 16 bits and the chatter count within their bounds (R36, R57, R80, R84, R97, R140). -/
def Counts.Saturated (n : Counts) : Prop :=
  n.clamp ≤ 65535 ∧ n.skipped ≤ 65535 ∧ n.chatter ≤ 255 ∧ n.late ≤ 65535 ∧ n.forcedTotal ≤ 65535 ∧ n.overload ≤ 65535

/-- The elementary changes of a station under a command, the stop line being asserted or not: what the kept conditions
read of it before and after. -/
inductive Move (c : Instr) (stop : Bool) : View → View → Prop
  /-- A command joins the queue; one that moves the drive only from a working station or with the line released. -/
  | sends (v : View) (d : DriveCmd) (h : d.moves = true → stop = false ∨ v.state.working = true) :
      Move c stop v { v with queue := enqueueCmd d v.queue }
  /-- Words leave the queue. -/
  | drops (v : View) (q : List DriveCmd) (h : q.Sublist v.queue) : Move c stop v { v with queue := q }
  /-- The station comes to rest. -/
  | rests (v : View) (st : StationState) (hst : st.working = false) (h : v.state = .off → st = .off) :
      Move c stop v { v with state := st }
  /-- A working station is held. -/
  | holds (v : View) (h : v.state.working = true) : Move c stop v { v with state := .held }
  /-- The station spins up. -/
  | spins (v : View) (h : v.state ≠ .off) (hs : stop = false) : Move c stop v { v with state := .spinup }
  /-- A working station with a tool that serves cuts or waits for its strip. -/
  | cuts (v : View) (st : StationState) (hst : st = .cutting ∨ st = .waiting) (h : v.state.working = true)
      (hw : v.serves) : Move c stop v { v with state := st }
  /-- A dressing begins: the closing one, or an owed one of a tool that serves. -/
  | dresses (v : View) (f : Dressing) (h : v.state.working = true) (hk : f.kind = .closing ∨ v.serves) :
      Move c stop v { v with
        state := .dressing, dress := { v.dress with number := f.number, inFlight := some f } }
  /-- The dressing in flight completes. -/
  | completes (v : View) (f : Dressing) (length : Option Nat) (h : v.state = .dressing) :
      Move c stop v { v with dress := v.dress.complete f length }
  /-- The dressing in flight is given up. -/
  | grounds (v : View) : Move c stop v { v with dress := { v.dress with inFlight := none } }
  /-- No dressing is owed any more. -/
  | forgives (v : View) : Move c stop v { v with dress := { v.dress with owed := 0 } }
  /-- A cut cell counts toward the next dressing. -/
  | wears (v : View) : Move c stop v { v with dress := v.dress.countCut }
  /-- The dress mode and the interval are written. -/
  | mode (v : View) (m : DressMode) (n : Nat) :
      Move c stop v { v with dress := { v.dress with mode := m, interval := n } }
  /-- A new tool. -/
  | newTool (v : View) (hc : c = .toolChanged) : Move c stop v { v with dress := v.dress.newTool }
  /-- A capture joins the history. -/
  | captures (v : View) (raw : Nat) : Move c stop v { v with captures := pushCapture raw v.captures }
  /-- The history is cleared. -/
  | clears (v : View) : Move c stop v { v with captures := [] }
  /-- Counts saturate, and the consecutive forced count stays or is 0. -/
  | counts (v : View) (n : Counts) (run : n.forcedRun = v.counts.forcedRun ∨ n.forcedRun = 0)
      (sat : v.counts.Saturated → n.Saturated) : Move c stop v { v with counts := n }
  /-- A forced advance below the limit. -/
  | forces (v : View) (h : v.counts.forcedRun < (v.config.getD StationConfig.absent).forcedLimit) :
      Move c stop v { v with counts := { v.counts with
        forcedRun := v.counts.forcedRun + 1, forcedTotal := satUp v.counts.forcedTotal } }
  /-- A pass begins, or the strip's work is discarded. -/
  | passes (v : View) (n : Option Nat) (h : ∀ k, n = some k → k ≤ 65535) : Move c stop v { v with pass := n }
  /-- The station is shut off. -/
  | shuts (v : View) :
      Move c stop v { v with
        state := .off, config := none, captures := [], dress := { v.dress with inFlight := none, owed := 0 }
        pass := none }
  /-- STATION CONFIG. -/
  | configures (v : View) (cfg : StationConfig) (hc : c = .stationConfig) :
      Move c stop v { v with
        config := some cfg, state := .idle, counts := { v.counts with forcedRun := 0 } }

/-- A chain of moves. -/
abbrev Moves (c : Instr) (stop : Bool) : View → View → Prop := Relation.ReflTransGen (Move c stop)

/-- What a chain of moves keeps, each move keeps. -/
theorem Moves.keeps {c : Instr} {stop : Bool} {P : View → Prop} (step : ∀ v w, Move c stop v w → P v → P w)
    {v w : View} (h : Moves c stop v w) (hv : P v) : P w := by
  induction h with
  | refl => exact hv
  | tail _ m ih => exact step _ _ m ih

/-! ## Acts of a command -/

/-- The elementary changes a command makes in the part, the host link aside. -/
inductive Act (c : Instr) : State → State → Prop
  | station (s : State) (p : StationId) (f : Station → Station)
      (h : Moves c s.stopLine (s.st p).view (f (s.st p)).view) : Act c s (s.modSt p f)
  | flag (s : State) (src : Source) (flag : FlagSet) : Act c s (setFlag src flag s)
  | mask (s : State) (src : Source) (enable : FlagSet) : Act c s (maskSource src enable s)
  | clear (s : State) (src : Source) (flags : FlagSet) : Act c s (clearSource src flags s)
  /-- Slots keep their strip and samples, or are emptied. -/
  | slots (s : State) (v : Vector Slot 2)
      (h : ∀ i : Fin 2, (v[i].strip = s.slots[i].strip ∨ v[i].strip = none) ∧
        (v[i].samples = s.slots[i].samples ∨ v[i].samples = [])) : Act c s (s.setSlots v)
  /-- A row joins the slot of its strip. -/
  | row (s : State) (k n : Nat) (row : List Nat) (h : ∀ m ∈ row, m ≤ 40000) :
      Act c s (s.setSlots (s.slots.set (slotOf k) (s.slots[slotOf k].takeRow k n row)))
  | nextRow (s : State) (r : Nat) : Act c s (s.setNextRow r)
  | released (s : State) (b : Bool) : Act c s (s.setReleased b)
  | setup (s : State) (st : SetupState) : Act c s (s.setSetup st)
  | face (s : State) (f : Option Face) (k : Nat) : Act c s (s.setFace f k)
  | windows (s : State) (w : Vector (Option Window) 4) : Act c s (s.setWindows w)
  /-- The participation set keeps its order. -/
  | members (s : State) (m : List StationId)
      (h : s.MembersOnce → m = allStations.filter (fun p => decide (p ∈ m))) : Act c s (s.setMembers m)

/-- A chain of acts. -/
abbrev Acts (c : Instr) : State → State → Prop := Relation.ReflTransGen (Act c)

section
variable {c : Instr} {p : StationId} {s t u : State}

theorem Acts.keeps {P : State → Prop} (step : ∀ s t, Act c s t → P s → P t) (h : Acts c s t) (hs : P s) : P t := by
  induction h with
  | refl => exact hs
  | tail _ a ih => exact step _ _ a ih

theorem Act.acts (h : Act c s t) : Acts c s t := .single h

theorem Acts.trans' (h : Acts c s t) (k : Acts c t u) : Acts c s u := Relation.ReflTransGen.trans h k

/-- A change of one station by a chain of moves. -/
theorem modSt_acts {f : Station → Station} (h : Moves c s.stopLine (s.st p).view (f (s.st p)).view) :
    Acts c s (s.modSt p f) := (Act.station s p f h).acts

/-- A change of one station by one move. -/
theorem modSt_act {f : Station → Station} (h : Move c s.stopLine (s.st p).view (f (s.st p)).view) :
    Acts c s (s.modSt p f) := modSt_acts (.single h)

/-- A change of one station that the kept conditions do not read. -/
theorem modSt_quiet {f : Station → Station} (h : (f (s.st p)).view = (s.st p).view) : Acts c s (s.modSt p f) :=
  modSt_acts (by rw [h])

end

end Sys2Proof.Machine
end

section
/-! The operations of a station as chains of acts, in the order of the model. -/

namespace Sys2Proof.Machine

/-! ## What the operations leave of a station -/

@[simp] theorem issue_st (p : StationId) (d : DriveCmd) (s : State) : (issue p d s).st p = (s.st p).sends d := by
  simp [issue, Station.sends, Port.issue]

@[simp] theorem issueLiftOff_st (p : StationId) (s : State) :
    (issueLiftOff p s).st p = ((s.st p).sends .lift).sends .spinOff := by simp [issueLiftOff]

@[simp] theorem issueLiftOff_stopLine (p : StationId) (s : State) : (issueLiftOff p s).stopLine = s.stopLine := rfl

@[simp] theorem Station.sends_view (x : Station) (d : DriveCmd) :
    (x.sends d).view = { x.view with queue := enqueueCmd d x.view.queue } := rfl

/-- Setting a flag changes nothing of a station but its notice sets, and so not its view (R149). -/
@[simp] theorem setFlag_view (src : Source) (flag : FlagSet) (s : State) (q : StationId) :
    ((setFlag src flag s).st q).view = (s.st q).view := by
  obtain ⟨n, h⟩ := setFlag_st src flag s q
  rw [h]; rfl

/-- The station has left both finished sets (R26). -/
def leaveSlots (p : StationId) (s : State) : State :=
  s.setSlots ((s.slots.set 0 { s.slots[(0 : Fin 2)] with finished := leaveSet p s.slots[(0 : Fin 2)].finished }).set 1
    { s.slots[(1 : Fin 2)] with finished := leaveSet p s.slots[(1 : Fin 2)].finished })

/-- What an ABORT does after the station has left the finished sets (R26, R30). -/
theorem bufferAbort_eq (p : StationId) (s : State) :
    bufferAbort p s =
      if s.members = [] then
        if s.setup = .active then endSetup (leaveSlots p s).emptySlots else (leaveSlots p s).emptySlots
      else endTest (releaseBoth (leaveSlots p s)) := rfl

section
variable {c : Instr} {p : StationId} {s t : State}

/-- The state of a station after an operation that leaves its view alone. -/
theorem state_of_view {x y : Station} (h : x.view = y.view) : x.state = y.state := congrArg View.state h

theorem StationState.ne_off_of_working {st : StationState} (h : st.working = true) : st ≠ .off := by
  rintro rfl; exact absurd h (by decide)

/-! ## Commands, holds, parks, spin-ups, stalls -/

theorem issue_acts {d : DriveCmd} (h : d.moves = true → s.stopLine = false ∨ (s.st p).state.working = true) :
    Acts c s (issue p d s) := modSt_act (.sends _ d h)

/-- LIFT, SPIN OFF and DRESS move no drive, so nothing stands in their way (R121). -/
theorem issue_still_acts {d : DriveCmd} (h : d.moves = false) : Acts c s (issue p d s) :=
  issue_acts (by simp [h])

theorem issueLiftOff_acts : Acts c s (issueLiftOff p s) := (issue_still_acts rfl).trans' (issue_still_acts rfl)

theorem takePark_acts (h : (s.st p).state ≠ .off) : Acts c s (takePark p s) :=
  (issue_still_acts rfl).trans' (modSt_act (.rests _ .parked rfl (by simpa [Station.view] using h)))

theorem enterHeld_acts {toSpinup : Bool} (h : (s.st p).state.working = true) : Acts c s (enterHeld p toSpinup s) := by
  have held : Acts c s (s.modSt p (fun x =>
      { x.leaveCutting with state := .held, holdPending := false, resumeSpinup := toSpinup })) :=
    modSt_act (.holds _ h)
  unfold enterHeld; dsimp only
  split
  · exact held.trans' (takePark_acts (by simp))
  · exact held

theorem enterSpinup_acts (hs : s.stopLine = false) (h : (s.st p).state ≠ .off) : Acts c s (enterSpinup p s) :=
  (issue_acts fun _ => .inl hs).trans' (modSt_acts
    ((Relation.ReflTransGen.single (.spins _ (by simpa [Station.view] using h) hs)).tail (.clears _)))

theorem stallStation_acts {flag : FlagSet} (h : (s.st p).state ≠ .off) : Acts c s (stallStation p flag s) :=
  (issueLiftOff_acts.trans' (modSt_acts
    ((Relation.ReflTransGen.single (.rests _ .stalled rfl (by simpa [Station.view] using h))).tail
      (.grounds _)))).trans' (Act.flag _ _ _).acts

theorem stopStation_acts (h : (s.st p).state ≠ .off) : Acts c s (stopStation p s) :=
  issueLiftOff_acts.trans' (modSt_acts
    ((Relation.ReflTransGen.single (.rests _ .stopped rfl (by simpa [Station.view] using h))).tail (.grounds _)))

theorem closeStation_acts : Acts c s (closeStation p s) := issueLiftOff_acts.trans' (modSt_act (.shuts _))

/-! ## Dressings -/

theorem startDressing_acts {kind : DressKind} {quarters : Nat} {gauge : Bool} (h : (s.st p).state.working = true)
    (hk : kind = .closing ∨ (s.st p).view.serves) : Acts c s (startDressing p kind quarters gauge s) := by
  unfold startDressing; dsimp only
  refine (issue_still_acts rfl).trans' (modSt_act (Move.dresses _
    ⟨quarters, gauge, ((s.st p).dress.number + 1) % 16, kind⟩ ?_ ?_))
  · simpa [Station.view] using h
  · simpa [Station.view, View.serves] using hk

theorem startOwed_acts {point : CallPoint} (h : (s.st p).state.working = true) (hw : (s.st p).view.serves) :
    Acts c s (startOwed p point s) := startDressing_acts h (.inr hw)

theorem startClosing_acts (h : (s.st p).state.working = true) : Acts c s (startClosing p s) :=
  startDressing_acts h (.inl rfl)

/-! ## Buffer -/

theorem endSetup_acts : Acts c s (endSetup s) := (Act.setup s .ended).acts.trans' (Act.flag _ _ _).acts

theorem endTest_acts : Acts c s (endTest s) := by
  unfold endTest; split
  · exact endSetup_acts
  · exact .refl

/-- A slot is replaced by one with the same strip and samples, or is emptied. -/
theorem setSlot_acts {i : Fin 2} {slot : Slot} (hk : slot.strip = s.slots[i].strip ∨ slot.strip = none)
    (hm : slot.samples = s.slots[i].samples ∨ slot.samples = []) : Acts c s (s.setSlots (s.slots.set i slot)) := by
  refine (Act.slots s _ fun j => ?_).acts
  by_cases h : i = j
  · subst h; simpa using And.intro hk hm
  · have hv : (i : Nat) ≠ (j : Nat) := fun e => h (Fin.ext e)
    simp [hv]

theorem releaseTest_acts {i : Fin 2} : Acts c s (releaseTest i s) := by
  unfold releaseTest; split
  · exact ((setSlot_acts (.inr rfl) (.inr rfl)).trans' (Act.released _ _).acts).trans' (Act.flag _ _ _).acts
  · exact .refl

theorem releaseBoth_acts : Acts c s (releaseBoth s) := by
  unfold releaseBoth; split
  · split <;> exact releaseTest_acts.trans' releaseTest_acts
  · exact releaseTest_acts.trans' releaseTest_acts

theorem stripDoneEvent_acts {k : Nat} : Acts c s (stripDoneEvent p k s) := by
  unfold stripDoneEvent; dsimp only
  refine Acts.trans' ?_ releaseTest_acts
  exact setSlot_acts (.inl rfl) (.inl rfl)

theorem emptySlots_acts : Acts c s s.emptySlots := by
  refine (Act.slots s _ fun i => ?_).acts
  simp [Slot.cleared]

theorem startBuffer_acts : Acts c s s.startBuffer :=
  (emptySlots_acts.trans' (Act.nextRow _ _).acts).trans' (Act.released _ _).acts

theorem leaveSlots_acts : Acts c s (leaveSlots p s) := by
  refine (Act.slots s _ fun i => ?_).acts
  revert i
  rw [Fin.forall_fin_two]
  exact ⟨by simp, by simp⟩

theorem bufferAbort_acts : Acts c s (bufferAbort p s) := by
  rw [bufferAbort_eq]
  split
  · split
    · exact (leaveSlots_acts.trans' emptySlots_acts).trans' endSetup_acts
    · exact leaveSlots_acts.trans' emptySlots_acts
  · exact (leaveSlots_acts.trans' releaseBoth_acts).trans' endTest_acts

/-! ## Going on in CUTTING -/

theorem startRun_acts {pl : Plan} (h : (s.st p).state.working = true) : Acts c s (startRun p pl s) := by
  unfold startRun; dsimp only
  have run : Acts c s (issue p (.run pl.column pl.rows) s) := issue_acts fun _ => .inr h
  split
  · exact (run.trans' (issue_acts fun _ => .inr (by simpa using h))).trans' (modSt_quiet rfl)
  · exact run.trans' (modSt_quiet rfl)

theorem satUp_le (n : Nat) : satUp n ≤ 65535 := Nat.min_le_left _ _

theorem skipRun_acts {pl : Plan} : Acts c s (skipRun p pl s) := by
  have skipped : Moves c s.stopLine (s.st p).view
      { (s.st p).view with counts := { (s.st p).counts with skipped := satUp (s.st p).counts.skipped } } :=
    .single (.counts _ _ (.inl rfl) fun h => ⟨h.1, satUp_le _, h.2.2⟩)
  refine modSt_acts ?_
  cases hw : (s.st p).work <;> simpa [Station.view, hw] using skipped

theorem countClamped_acts {n : Nat} : Acts c s (countClamped p n s) :=
  modSt_act (.counts _ _ (.inl rfl) fun h => ⟨Nat.min_le_left _ _, h.2⟩)

theorem takeUp_acts : Acts c s (takeUp p s) :=
  modSt_act (.passes _ (some 1) (by rintro k ⟨⟩; decide))

theorem enterWaiting_acts (h : (s.st p).state = .cutting) : Acts c s (enterWaiting p s) :=
  modSt_act (.cuts _ .waiting (.inr rfl) (by simp [Station.view, h, StationState.working])
    (.inr (.inl h)))

theorem tellPassEnd_acts : Acts c s (tellPassEnd p s) := by
  refine modSt_quiet ?_
  cases hw : (s.st p).work <;> simp [Station.view, hw]

theorem newPass_acts {phase : Phase} : Acts c s (newPass p phase s) := by
  refine modSt_act ?_
  cases hw : (s.st p).work with
  | none => simpa [Station.view, hw] using Move.passes (c := c) (stop := s.stopLine) (s.st p).view none (by simp)
  | some w =>
    simpa [Station.view, hw] using Move.passes (c := c) (stop := s.stopLine) (s.st p).view
      (some (min 65535 (w.pass + 1))) (by rintro k ⟨⟩; exact Nat.min_le_left _ _)

end

end Sys2Proof.Machine
end

section
/-! The sequencer's longer operations as chains of acts: strip done, going on, run ends, dressings that complete. -/

namespace Sys2Proof.Machine

/-! ## Operations that leave a station's view alone -/

@[simp] theorem releaseTest_view (i : Fin 2) (s : State) (q : StationId) :
    ((releaseTest i s).st q).view = (s.st q).view := by
  unfold releaseTest; split
  · simp [releaseSlot]
  · rfl

@[simp] theorem stripDoneEvent_view (p : StationId) (k : Nat) (s : State) (q : StationId) :
    ((stripDoneEvent p k s).st q).view = (s.st q).view := by
  unfold stripDoneEvent; dsimp only; rw [releaseTest_view]; rfl

@[simp] theorem endTest_view (s : State) (q : StationId) : ((endTest s).st q).view = (s.st q).view := by
  unfold endTest; split
  · simp [endSetup]
  · rfl

section
variable {c : Instr} {p : StationId} {s t : State}

/-! ## Strip done -/

/-- Strip done up to the next strip's take-up, before the test for the last strip (R60 steps 2 to 4). -/
def leaveStrip (p : StationId) (s : State) : State :=
  (setFlag (.station p) flagStripDone (stripDoneEvent p (s.st p).strip
    (s.modSt p (fun x => { x with work := none, plan := none })))).modSt p
      (fun x => { x with strip := (s.st p).strip + 1 })

/-- The station enters DONE after its last strip (R113). -/
def enterDone (p : StationId) (s : State) : State :=
  setFlag (.station p) flagStationDone
    ((issue p .spinOff s).modSt p (fun x => { x.leaveCutting with state := .done }))

theorem finishStrip_eq (p : StationId) (s : State) :
    finishStrip p s =
      if (s.st p).strip + 1 < s.strips then leaveStrip p s else endTest (enterDone p (leaveStrip p s)) := rfl

theorem leaveStrip_view (p : StationId) (s : State) :
    ((leaveStrip p s).st p).view = { (s.st p).view with pass := none } := by
  have h : ((leaveStrip p s).st p).view =
      ((setFlag (.station p) flagStripDone (stripDoneEvent p (s.st p).strip
        (s.modSt p (fun x => { x with work := none, plan := none })))).st p).view := by
    unfold leaveStrip; rw [State.modSt_st_self]; rfl
  rw [h, setFlag_view, stripDoneEvent_view, State.modSt_st_self]; rfl

theorem leaveStrip_state (p : StationId) (s : State) : ((leaveStrip p s).st p).state = (s.st p).state :=
  congrArg View.state (leaveStrip_view p s)

theorem enterDone_state (p : StationId) (s : State) : ((enterDone p s).st p).state = .done :=
  (congrArg View.state (setFlag_view _ _ _ _)).trans (by simp [Station.view])

theorem leaveStrip_acts : Acts c s (leaveStrip p s) :=
  (((modSt_act (.passes _ none (by simp))).trans' stripDoneEvent_acts).trans' (Act.flag _ _ _).acts).trans'
    (modSt_quiet rfl)

theorem enterDone_acts (h : (s.st p).state ≠ .off) : Acts c s (enterDone p s) :=
  ((issue_still_acts rfl).trans'
    (modSt_act (.rests _ .done rfl (by simpa [Station.view] using h)))).trans' (Act.flag _ _ _).acts

/-- After strip done the station is DONE or where it was. -/
theorem finishStrip_state (p : StationId) (s : State) :
    ((finishStrip p s).st p).state = .done ∨ ((finishStrip p s).st p).state = (s.st p).state := by
  rw [finishStrip_eq]; split
  · exact .inr (leaveStrip_state p s)
  · exact .inl ((state_of_view (endTest_view _ _)).trans (enterDone_state _ _))

theorem finishStrip_acts (h : (s.st p).state ≠ .off) : Acts c s (finishStrip p s) := by
  rw [finishStrip_eq]; split
  · exact leaveStrip_acts
  · exact (leaveStrip_acts.trans' (enterDone_acts (by rwa [leaveStrip_state]))).trans' endTest_acts

/-! ## Going on -/

/-- The way a station goes on, with what holds while it is under way told apart from what holds of the state it ends
in: only the steps that lead on must keep `P`. -/
theorem carryOn_leads (p : StationId) (P Q : State → Prop)
    (stop : ∀ s, P s → Q s)
    (takeUp_keeps : ∀ s, P s → P (takeUp p s))
    (wait_ends : ∀ s, P s → Q (enterWaiting p s))
    (count_keeps : ∀ s n, P s → P (countClamped p n s))
    (skip_keeps : ∀ s pl, P s → P (skipRun p pl s))
    (run_ends : ∀ s pl, P s → Q (startRun p pl s))
    (tell_keeps : ∀ s, P s → P (tellPassEnd p s))
    (pass_keeps : ∀ s phase, P s → P (newPass p phase s))
    (owed_ends : ∀ s, P s → Q (startOwed p .stripDone s))
    (finish_ends : ∀ s, P s → Q (finishStrip p s))
    (finish_keeps : ∀ s, P s → ((finishStrip p s).st p).state ≠ .done → P (finishStrip p s)) :
    ∀ (fuel : Nat) (s : State), P s → Q (carryOn fuel p s) := by
  intro fuel
  induction fuel with
  | zero => exact stop
  | succ fuel ih =>
    intro s h
    rw [carryOn]
    split
    · split
      · exact ih _ (takeUp_keeps s h)
      · exact wait_ends s h
    · next w _ =>
      split
      · have counted := count_keeps s (clampedCells s (s.st p) w) h
        dsimp only
        split
        · exact ih _ (skip_keeps _ _ counted)
        · exact run_ends _ _ counted
      · have told := tell_keeps s h
        dsimp only
        split
        · exact ih _ (pass_keeps _ _ told)
        · split
          · exact owed_ends _ told
          · split
            · exact finish_ends _ told
            · next hd => exact ih _ (finish_keeps _ told hd)

/-- A station that cuts goes on by acts. -/
theorem carryOn_acts (fuel : Nat) (h : (s.st p).state = .cutting) : Acts c s (carryOn fuel p s) := by
  have working : ∀ u : State, (u.st p).state = .cutting → (u.st p).state.working = true := fun u h => by rw [h]; rfl
  have on : ∀ {u v : State}, Acts c s u ∧ (u.st p).state = .cutting → Acts c u v →
      (v.st p).state = (u.st p).state → Acts c s v ∧ (v.st p).state = .cutting :=
    fun hu hv hs => ⟨hu.1.trans' hv, hs.trans hu.2⟩
  refine carryOn_leads p (fun u => Acts c s u ∧ (u.st p).state = .cutting) (fun u => Acts c s u)
    ?_ ?_ ?_ ?_ ?_ ?_ ?_ ?_ ?_ ?_ ?_ fuel s ⟨.refl, h⟩
  · exact fun u hu => hu.1
  · exact fun u hu => on hu takeUp_acts (by simp [takeUp])
  · exact fun u hu => hu.1.trans' (enterWaiting_acts hu.2)
  · exact fun u n hu => on hu countClamped_acts (by simp [countClamped])
  · exact fun u pl hu => on hu skipRun_acts (by simp [skipRun])
  · exact fun u pl hu => hu.1.trans' (startRun_acts (working u hu.2))
  · exact fun u hu => on hu tellPassEnd_acts (by unfold tellPassEnd; rw [State.modSt_st_self]; split <;> rfl)
  · exact fun u phase hu => on hu newPass_acts (by simp [newPass])
  · exact fun u hu => hu.1.trans' (startOwed_acts (working u hu.2) (.inr (.inl hu.2)))
  · exact fun u hu => hu.1.trans' (finishStrip_acts (by simp [hu.2]))
  · exact fun u hu hd => on hu (finishStrip_acts (by simp [hu.2])) ((finishStrip_state p u).resolve_left hd)

theorem owedThenOn_acts {point : CallPoint} (h : (s.st p).state = .cutting) : Acts c s (owedThenOn p point s) := by
  unfold owedThenOn; split
  · exact startOwed_acts (by rw [h]; rfl) (.inr (.inl h))
  · exact carryOn_acts _ h

/-- A working station with a tool that serves is put in CUTTING (R111). -/
theorem setCutting_acts (h : (s.st p).state.working = true) (hw : (s.st p).view.serves) :
    Acts c s (s.modSt p (fun x => { x with state := .cutting })) := modSt_act (.cuts _ .cutting (.inl rfl) h hw)

theorem comeIntoCutting_acts (h : (s.st p).state.working = true) (hw : (s.st p).view.serves) :
    Acts c s (comeIntoCutting p s) := (setCutting_acts h hw).trans' (owedThenOn_acts (by simp))

theorem afterOwed_acts {point : CallPoint} (h : (s.st p).state.working = true) (hw : (s.st p).view.serves) :
    Acts c s (afterOwed p point s) := by
  have cutting := setCutting_acts (c := c) h hw
  unfold afterOwed; dsimp only
  cases point with
  | stripDone =>
    have finished : Acts c s (finishStrip p (s.modSt p (fun x => { x with state := .cutting }))) :=
      cutting.trans' (finishStrip_acts (by simp))
    dsimp only; split
    · exact finished
    · next hd =>
      exact finished.trans' (carryOn_acts _ (((finishStrip_state p _).resolve_left hd).trans (by simp)))
  | runEnd => exact cutting.trans' (carryOn_acts _ (by simp))
  | intoCutting => exact cutting.trans' (carryOn_acts _ (by simp))

/-! ## Run ends and the end of a dressing -/

theorem closeRun_acts {pl : Plan} : Acts c s (closeRun p pl s) := by
  refine (issue_still_acts rfl).trans' (modSt_quiet ?_)
  rw [issue_st]
  cases hw : (s.st p).work <;> simp [Station.view, hw]

theorem closeRun_state (p : StationId) (pl : Plan) (s : State) : ((closeRun p pl s).st p).state = (s.st p).state := by
  simp [closeRun]

theorem endRun_acts {pl : Plan} (h : (s.st p).state = .cutting) : Acts c s (endRun p pl s) := by
  unfold endRun; dsimp only; split
  · exact closeRun_acts.trans' (takePark_acts (by simp [closeRun_state, h]))
  · exact closeRun_acts.trans' (owedThenOn_acts (by rwa [closeRun_state]))

theorem cutShort_acts (h : (s.st p).state.working = true) : Acts c s (cutShort p s) :=
  (issue_still_acts rfl).trans' (enterHeld_acts (by simpa using h))

theorem parkForWear_acts (h : (s.st p).state ≠ .off) : Acts c s (parkForWear p s) :=
  ((issue_still_acts rfl).trans' (modSt_acts
    ((Relation.ReflTransGen.single (.rests _ .parked rfl (by simpa [Station.view] using h))).tail
      (.forgives _)))).trans' (Act.flag _ _ _).acts

/-- SPIN OFF, and the station rests (R110). -/
theorem endSpinup_rests_acts {st : StationState} (hst : st.working = false) (h : (s.st p).state ≠ .off) :
    Acts c s ((issue p .spinOff s).modSt p (fun x => { x with state := st, holdPending := false })) :=
  (issue_still_acts rfl).trans' (modSt_act (.rests _ st hst (fun e => absurd (by simpa [Station.view] using e) h)))

theorem endSpinup_acts (h : (s.st p).state.working = true) (hw : (s.st p).view.serves) :
    Acts c s (endSpinup p s) := by
  have on := StationState.ne_off_of_working h
  unfold endSpinup; split
  · exact endSpinup_rests_acts rfl on
  · exact (endSpinup_rests_acts rfl on).trans' endTest_acts
  · exact comeIntoCutting_acts h hw

theorem afterDressing_acts {kind : DressKind} (h : (s.st p).state.working = true) (hw : (s.st p).view.serves) :
    Acts c s (afterDressing p kind s) := by
  unfold afterDressing; dsimp only
  split
  · exact takePark_acts (StationState.ne_off_of_working h)
  · split
    · exact enterHeld_acts h
    · split
      · split
        · exact startOwed_acts h hw
        · exact afterOwed_acts h hw
      · exact endSpinup_acts h hw

theorem completeDressing_acts {f : Dressing} {length : Option Nat} (h : (s.st p).state = .dressing) :
    Acts c s (completeDressing p f length s) := by
  have completed : Acts c s (s.modSt p (fun x =>
      { x with timers := { x.timers with dress := none }, dress := x.dress.complete f length })) :=
    modSt_act (.completes _ f length h)
  have goes : ∀ u : State, Acts c s u → (u.st p).state = .dressing →
      Acts c s (if (u.st p).dress.worn then parkForWear p u else afterDressing p f.kind u) := by
    intro u hu hs
    split
    · exact hu.trans' (parkForWear_acts (by simp [hs]))
    · next hw => exact hu.trans' (afterDressing_acts (by rw [hs]; rfl) (.inl (by simpa [Station.view] using hw)))
  unfold completeDressing; dsimp only
  apply goes
  · split
    · exact completed.trans' (Act.flag _ _ _).acts
    · exact completed
  · split
    · exact (state_of_view (setFlag_view _ _ _ _)).trans (by simp [h])
    · simp [h]

end

end Sys2Proof.Machine
end

section
/-! Cell timing, the load check and the events of one station as chains of acts. -/

namespace Sys2Proof.Machine

section
variable {c : Instr} {p : StationId} {s t : State}

/-! ## Recorded exits -/

/-- A load check of a station changes only counts, Beff, work, residual and notices: it stays in its state, with its
configuration and plan. -/
theorem loadCheck_st (p : StationId) (bite load : Nat) (s : State) :
    (((loadCheck p bite load s).1).st p).state = (s.st p).state := by
  have hit : ∀ u : State, (u.st p).state = (s.st p).state →
      ((if (s.st p).spallAt (residual (s.st p).cfg.hardness bite load) then
        setFlag (.station p) flagSpall u else u).st p).state = (s.st p).state := by
    intro u hu; split
    · exact (state_of_view (setFlag_view _ _ _ _)).trans hu
    · exact hu
  unfold loadCheck; dsimp only
  rw [State.modSt_st_self]
  apply hit
  split
  · exact (state_of_view (setFlag_view _ _ _ _)).trans (by simp)
  · rfl

theorem overloadHit_acts : Acts c s (s.modSt p Station.overloadHit) := by
  have hit : Moves c s.stopLine (s.st p).view
      { (s.st p).view with counts := { (s.st p).counts with overload := satUp (s.st p).counts.overload } } :=
    .single (.counts _ _ (.inl rfl) fun h => ⟨h.1, h.2.1, h.2.2.1, h.2.2.2.1, h.2.2.2.2.1, satUp_le _⟩)
  refine modSt_acts ?_
  cases hw : (s.st p).work <;> simpa [Station.view, Station.overloadHit, hw] using hit

theorem loadCheck_acts {bite load : Nat} : Acts c s (loadCheck p bite load s).1 := by
  have hit : Acts c s (if (s.st p).overloadAt (residual (s.st p).cfg.hardness bite load) then
      setFlag (.station p) flagOverload (s.modSt p Station.overloadHit) else s) := by
    split
    · exact overloadHit_acts.trans' (Act.flag _ _ _).acts
    · exact .refl
  unfold loadCheck; dsimp only
  refine Acts.trans' ?_ (modSt_quiet rfl)
  split
  · exact hit.trans' (Act.flag _ _ _).acts
  · exact hit

/-- A change of one station that the kept conditions read as the exit of a cell. -/
theorem exitCell_acts {pl : Plan} {j : Nat} {f : Station → Station}
    (hf : (f (s.st p)).view = ((s.st p).exitCell pl j).view) : Acts c s (s.modSt p f) := by
  refine modSt_acts ?_
  rw [hf]
  by_cases h : (pl.cell j).cut
  · have cut : Moves c s.stopLine (s.st p).view { (s.st p).view with dress := (s.st p).dress.countCut } :=
      .single (.wears _)
    cases hw : (s.st p).work <;> simpa [Station.view, Station.exitCell, h, hw] using cut
  · simpa [Station.view, Station.exitCell, h] using .refl

/-- The exit without a load is one change of the station (R53, R141). -/
theorem recordExit_none (p : StationId) (pl : Plan) (j : Nat) (s : State) :
    recordExit p pl j none s = (s.modSt p (fun x => { x.exitCell pl j with prevResidual := none }), false) := by
  simp [recordExit]

theorem recordExit_acts {pl : Plan} {j : Nat} {load : Option Nat} : Acts c s (recordExit p pl j load s).1 := by
  unfold recordExit; dsimp only
  split
  · dsimp only; exact (exitCell_acts rfl).trans' (modSt_quiet rfl)
  · split
    · exact (exitCell_acts rfl).trans' loadCheck_acts
    · dsimp only; exact (exitCell_acts rfl).trans' (modSt_quiet rfl)

theorem recordExit_state (p : StationId) (pl : Plan) (j : Nat) (load : Option Nat) (s : State) :
    ((recordExit p pl j load s).1.st p).state = (s.st p).state := by
  unfold recordExit; dsimp only
  split
  · simp
  · split
    · rw [loadCheck_st]; simp
    · simp

theorem markExit_acts {pl : Plan} {j : Nat} {load : Option Nat} : Acts c s (markExit p pl j load s).1 := by
  unfold markExit; split
  · dsimp only; exact modSt_quiet rfl
  · exact recordExit_acts

theorem markExit_state (p : StationId) (pl : Plan) (j : Nat) (load : Option Nat) (s : State) :
    ((markExit p pl j load s).1.st p).state = (s.st p).state := by
  unfold markExit; split
  · simp
  · exact recordExit_state ..

/-! ## Plunges -/

/-- A PLUNGE of a station that cuts. -/
theorem plunge_acts {n : Nat} (h : (s.st p).state = .cutting) : Acts c s (issue p (.plunge n) s) :=
  issue_acts fun _ => .inr (by rw [h]; rfl)

theorem startLead_acts {pl : Plan} {j : Nat} (h : (s.st p).state = .cutting) : Acts c s (startLead p pl j s) := by
  unfold startLead; dsimp only
  split
  · split
    · exact Acts.trans' (modSt_quiet rfl) (plunge_acts (by simpa using h))
    · exact modSt_quiet rfl
  · exact .refl

theorem latePlunge_acts (h : (s.st p).state = .cutting) : Acts c s (latePlunge p s) := by
  unfold latePlunge; split
  · exact .refl
  · refine ((plunge_acts h).trans' (modSt_act ?_)).trans' (Act.flag _ _ _).acts
    exact .counts _ _ (.inl rfl) fun h => ⟨h.1, h.2.1, h.2.2.1, satUp_le _, h.2.2.2.2⟩

theorem latePlunge_state (p : StationId) (s : State) : ((latePlunge p s).st p).state = (s.st p).state := by
  unfold latePlunge; split
  · rfl
  · exact (state_of_view (setFlag_view _ _ _ _)).trans (by simp)

theorem plungeAtMark_acts {pl : Plan} {j : Nat} (h : (s.st p).state = .cutting) :
    Acts c s (plungeAtMark p pl j s) := by
  unfold plungeAtMark; split
  · exact plunge_acts h
  · exact (latePlunge_acts h).trans' (startLead_acts (by rwa [latePlunge_state]))
  · exact plunge_acts h

theorem plungeAtForced_acts {pl : Plan} {j : Nat} (h : (s.st p).state = .cutting) :
    Acts c s (plungeAtForced p pl j s) := by
  unfold plungeAtForced; split
  · exact plunge_acts h
  · exact startLead_acts h
  · exact .refl

/-! ## Marks and STEP -/

theorem capture_acts {now j : Nat} : Acts c s (s.modSt p (fun x => x.capture now j)) := by
  refine modSt_acts ?_
  unfold Station.capture
  split
  · exact .refl
  · split
    · exact .refl
    · exact .single (.captures _ _)

theorem capture_state (x : Station) (now j : Nat) : (x.capture now j).state = x.state := by
  rw [Station.capture_eq]

/-- The consecutive forced count goes back to 0 (R97). -/
theorem unforced_act {f : Station → Station}
    (h : (f (s.st p)).view = { (s.st p).view with counts := { (s.st p).counts with forcedRun := 0 } }) :
    Acts c s (s.modSt p f) := modSt_act (by rw [h]; exact .counts _ _ (.inr rfl) id)

theorem acceptMark_acts {pl : Plan} {load : Option Nat} (h : (s.st p).state = .cutting) :
    Acts c s (acceptMark p pl load s) := by
  have exit : Acts c s (markExit p pl pl.next load (s.modSt p (fun x => x.capture s.tick pl.next))).1 :=
    capture_acts.trans' markExit_acts
  have cutting : ((markExit p pl pl.next load (s.modSt p (fun x => x.capture s.tick pl.next))).1.st p).state =
      .cutting := by rw [markExit_state]; simp [capture_state, h]
  unfold acceptMark; dsimp only
  split
  · split
    · exact exit.trans' (cutShort_acts (by rw [cutting]; rfl))
    · exact (exit.trans' (unforced_act rfl)).trans' (plungeAtMark_acts (by simp [cutting]))
  · split
    · exact ((exit.trans' (unforced_act rfl)).trans' closeRun_acts).trans'
        (enterHeld_acts (by simp [closeRun_state, cutting, StationState.working]))
    · exact (exit.trans' (unforced_act rfl)).trans' (endRun_acts (by simp [cutting]))

theorem stepRun_acts (h : (s.st p).state = .cutting) : Acts c s (stepRun p s) := by
  unfold stepRun; split
  · exact .refl
  · next pl _ =>
    split
    · have exit : Acts c s ((markExit p pl pl.next none s).1.modSt p
          (fun x => { x with counts := { x.counts with forcedRun := 0 } })) := markExit_acts.trans' (unforced_act rfl)
      have cutting : (((markExit p pl pl.next none s).1.modSt p
          (fun x => { x with counts := { x.counts with forcedRun := 0 } })).st p).state = .cutting := by
        simp [markExit_state, h]
      dsimp only; split
      · exact exit.trans' (plungeAtMark_acts cutting)
      · exact exit.trans' (endRun_acts cutting)
    · exact .refl

/-! ## Expiries -/

theorem leadExpires_acts (h : (s.st p).state = .cutting) : Acts c s (leadExpires p s) := by
  unfold leadExpires; dsimp only
  split
  · exact modSt_quiet rfl
  · exact Acts.trans' (modSt_quiet rfl) (plunge_acts (by simpa using h))

theorem leadExpires_state (p : StationId) (s : State) : ((leadExpires p s).st p).state = (s.st p).state := by
  unfold leadExpires; dsimp only; split <;> simp

theorem earlierLead_acts (h : (s.st p).state = .cutting) : Acts c s (earlierLead p s) := by
  unfold earlierLead; split
  · exact .refl
  · split
    · exact leadExpires_acts h
    · exact .refl

theorem earlierLead_state (p : StationId) (s : State) : ((earlierLead p s).st p).state = (s.st p).state := by
  unfold earlierLead; split
  · rfl
  · split
    · exact leadExpires_state p s
    · rfl

theorem forceExit_acts {pl : Plan} (h : (s.st p).counts.forcedRun < (s.st p).cfg.forcedLimit) :
    Acts c s (forceExit p pl s) := by
  unfold forceExit; dsimp only
  rw [recordExit_none]
  have exit : Acts c s ((s.modSt p (fun x => { x with captureRef := none })).modSt p
      (fun x => { x.exitCell pl (pl.next - 1) with prevResidual := none })) :=
    Acts.trans' (modSt_quiet rfl) (exitCell_acts rfl)
  exact ((exit.trans' (modSt_act (.forces _ (by simpa [Station.view, Station.cfg] using h)))).trans'
    (Act.flag _ _ _).acts).trans' (modSt_quiet rfl)

theorem forceExit_state (p : StationId) (pl : Plan) (s : State) :
    ((forceExit p pl s).st p).state = (s.st p).state := by
  unfold forceExit; dsimp only
  rw [recordExit_none, State.modSt_st_self]
  exact (state_of_view (setFlag_view _ _ _ _)).trans (by simp)

theorem forceAdvance_acts {pl : Plan} (h : (s.st p).state = .cutting)
    (hf : (s.st p).counts.forcedRun < (s.st p).cfg.forcedLimit) : Acts c s (forceAdvance p pl s) := by
  unfold forceAdvance; split
  · exact (forceExit_acts hf).trans' (plungeAtForced_acts (by rwa [forceExit_state]))
  · exact (forceExit_acts hf).trans' (endRun_acts (by rwa [forceExit_state]))

theorem missExpires_acts (h : (s.st p).state = .cutting) : Acts c s (missExpires p s) := by
  have lead := earlierLead_acts (c := c) h
  have cutting := (earlierLead_state p s).trans h
  unfold missExpires; dsimp only
  split
  · exact lead
  · split
    · exact lead
    · split
      · next hf => exact lead.trans' (forceAdvance_acts cutting hf)
      · exact lead.trans' (stallStation_acts (by simp [cutting]))

end

end Sys2Proof.Machine
end

section
/-! Every command as a chain of deeds: acts in the part, and what the host link does around them. -/

namespace Sys2Proof.Machine

/-! ## Deeds of a command -/

/-- The elementary things a command that moves no pin does with the part and the host link. -/
inductive Deed (c : Instr) : State → State → Prop
  /-- Acts that set no flag, after which the transmitter does not choose. -/
  | acts (s t : State) (h : Acts c s t) (hq : t.noticeQueue = s.noticeQueue) : Deed c s t
  /-- Acts after which the transmitter goes on or chooses. -/
  | sends (s u : State) (h : Acts c s u) : Deed c s (transmit u)
  | chooses (s : State) : Deed c s (chooseFrame s)
  | byte (s : State) (b : Byte) : Deed c s (receiveByte s b)
  | gap (s : State) : Deed c s (dropPartialFrame s)
  /-- The head of the receive list is answered after acts. -/
  | answers (s u : State) (e : Entry) (rest : List Entry) (r : Frame) (hl : s.recvList = e :: rest)
      (h : Acts c (s.setList rest) u) : Deed c s (transmit (u.setReply (some r)))
  /-- A note at the head is answered, and the receiver may hunt again. -/
  | note (s : State) (tag : Byte) (code : NoteCode) (rest : List Entry) (r : Frame) (x : Receiver)
      (hl : s.recvList = .note tag code :: rest) :
      Deed c s (transmit (((s.setList rest).setReply (some r)).setReceiver x))
  /-- RESET is answered. -/
  | resets (s : State) (e : Entry) (rest : List Entry) (r : Frame) (hl : s.recvList = e :: rest) :
      Deed c s (transmit ((((s.setList rest).setReceiver .deaf).setResetting true).setReply (some r)))

/-- A chain of deeds. -/
abbrev Deeds (c : Instr) : State → State → Prop := Relation.ReflTransGen (Deed c)

section
variable {c : Instr} {p : StationId} {s t u : State}

theorem Deed.deeds (h : Deed c s t) : Deeds c s t := .single h

theorem Deeds.keeps {P : State → Prop} (step : ∀ s t, Deed c s t → P s → P t) (h : Deeds c s t) (hs : P s) : P t := by
  induction h with
  | refl => exact hs
  | tail _ d ih => exact step _ _ d ih

/-- Acts of which no flag is one. -/
theorem Acts.quietly (h : Acts c s t) (hq : t.noticeQueue = s.noticeQueue) : Deeds c s t := (Deed.acts s t h hq).deeds

theorem Acts.sends (h : Acts c s t) : Deeds c s (transmit t) := (Deed.sends s t h).deeds

/-- A command that the pin holds up does nothing (R168). -/
theorem outOfReset_deeds {effect : State → State} (h : s.inReset = false → Deeds c s (effect s)) :
    Deeds c s (outOfReset effect s) := by
  unfold outOfReset; split
  · exact .refl
  · next hr => exact h (by simpa using hr)

theorem atExpiry_deeds {timer : Option Nat} {effect : State → State} (h : Deeds c s (effect s)) :
    Deeds c s (atExpiry timer effect s) := by
  obtain e | ⟨_, _, _, _, e⟩ := atExpiry_cases timer effect s
  · rw [e]
  · rwa [e]

/-! ## Requests -/

/-- The checks of a request that names a station all pass (R106). -/
theorem checkNamed_eq_none {n : Nat} {accepts : StationState → Bool} {payload : List Byte} {s : State} :
    checkNamed n accepts payload s = none ↔
      payload.length = n ∧ (stationField payload).isSome = true ∧
        accepts (s.st (namedStation payload)).state = true := by
  simp [checkNamed, checkStation, Option.or_eq_none_iff]

/-- The stop line is released and the tool is not worn (R115, R118). -/
theorem checkSpindle_eq_none {payload : List Byte} {s : State} :
    checkSpindle payload s = none ↔ s.stopLine = false ∧ (s.st (namedStation payload)).dress.worn = false := by
  simp [checkSpindle, Option.or_eq_none_iff]

theorem forStations_acts {f : StationId → State → State} (h : ∀ p u, Acts c u (f p u)) :
    Acts c s (forStations f s) :=
  forStations_induction f (fun u => Acts c s u) (fun p _ hu => hu.trans' (h p _)) s .refl

theorem defineSetup_acts {w h k : Nat} : Acts c s (defineSetup w h k s) :=
  (((startBuffer_acts.trans' (Act.setup _ _).acts).trans' (Act.face _ _ _).acts).trans'
    (Act.windows _ _).acts).trans' (Act.members _ [] (fun _ => by simp)).acts

theorem closeSetup_acts : Acts c s (closeSetup s) :=
  (((((forStations_acts fun _ _ => closeStation_acts).trans' startBuffer_acts).trans' (Act.setup _ _).acts).trans'
    (Act.face _ _ _).acts).trans' (Act.windows _ _).acts).trans' (Act.members _ [] (fun _ => by simp)).acts

theorem configure_acts {p : StationId} {cfg : StationConfig} : Acts .stationConfig s (configure p cfg s) :=
  modSt_act (.configures _ cfg rfl)

theorem wakeStation_acts {k : Nat} : Acts c s (wakeStation k p s) := by
  unfold wakeStation; split
  · next h => exact comeIntoCutting_acts (by rw [h.1]; rfl) (.inr (.inr h.1))
  · exact .refl

theorem storeRow_acts {r : Nat} {samples : List Nat} : Acts c s (storeRow r samples s) := by
  have stored : Acts c s ((s.setSlots (s.slots.set (slotOf (stripOfRow r)) (s.slots[slotOf (stripOfRow r)].takeRow
      (stripOfRow r) (s.rowsOf (stripOfRow r)) (samples.map (min Config.masterCeiling))))).setNextRow (r + 1)) := by
    refine (Act.row s _ _ _ ?_).acts.trans' (Act.nextRow _ _).acts
    intro m hm
    obtain ⟨a, _, rfl⟩ := List.mem_map.mp hm
    exact Nat.min_le_left _ _
  unfold storeRow; dsimp only
  split
  · exact stored.trans' (forStations_acts fun _ _ => wakeStation_acts)
  · exact stored

theorem startStation_st (s : State) (p q : StationId) :
    ((startStation s p).st q).state = if p = q then .spinup else (s.st q).state := by
  unfold startStation enterSpinup
  rw [State.modSt_st]
  split
  · rfl
  · next h => rw [(issue_touchesOnly p _ _).others q (Ne.symm h)]; simp [h]

theorem startStation_acts (hs : s.stopLine = false) (h : (s.st p).state ≠ .off) : Acts c s (startStation s p) := by
  refine ((Act.members s _ fun _ => ?_).acts.trans' (modSt_acts (Relation.ReflTransGen.tail (.single (.clears _))
    (.counts _ Counts.zero (.inr rfl) fun _ => ?_)))).trans' (enterSpinup_acts hs (by simpa using h))
  · simp [joinSet, mem_allStations]
  · simp [Counts.Saturated, Counts.zero]

theorem startStations_acts (hs : s.stopLine = false) (l : List StationId) (h : ∀ p ∈ l, (s.st p).state ≠ .off) :
    Acts c s (l.foldl startStation s) := by
  induction l generalizing s with
  | nil => exact .refl
  | cons p l ih =>
    refine (startStation_acts hs (h p (by simp))).trans' (ih hs fun q hq => ?_)
    rw [startStation_st]
    split
    · simp
    · exact h q (by simp [hq])

theorem holdStation_acts : Acts c s (holdStation p s) := by
  unfold holdStation
  split
  · next h => exact cutShort_acts (by rw [h]; rfl)
  · next h => exact enterHeld_acts (by rw [h]; rfl)
  · next h => exact Acts.trans' (modSt_quiet rfl) (enterHeld_acts (by simp [h, StationState.working]))
  · exact modSt_quiet rfl
  all_goals exact .refl

theorem resumeStation_acts (h : resumeAccepts (s.st p).state = true) (hs : s.stopLine = false)
    (hw : (s.st p).dress.worn = false) : Acts c s (resumeStation p s) := by
  unfold resumeStation; split
  · next hh => exact comeIntoCutting_acts (by rw [hh.1]; rfl) (.inl hw)
  · refine enterSpinup_acts hs ?_
    intro e; rw [e] at h; exact absurd h (by decide)

theorem parkStation_acts : Acts c s (parkStation p s) := by
  unfold parkStation
  split
  · next h => exact Acts.trans' (modSt_quiet rfl) (takePark_acts (by simp [h]))
  · next h => exact Acts.trans' (modSt_quiet rfl) (takePark_acts (by simp [h]))
  · next h => exact takePark_acts (by simp [h])
  · next h => exact takePark_acts (by simp [h])
  · exact modSt_quiet rfl
  · exact modSt_quiet rfl
  all_goals exact .refl

/-- A set in order stays in order when a station leaves it (R11). -/
theorem leaveSet_ordered {p : StationId} {l : List StationId}
    (h : l = allStations.filter (fun q => decide (q ∈ l))) :
    leaveSet p l = allStations.filter (fun q => decide (q ∈ leaveSet p l)) := by
  conv_lhs => rw [h]
  simp only [leaveSet, List.filter_filter, List.mem_filter]
  congr 1; funext q; simp [and_comm]

theorem abortStation_acts : Acts c s (abortStation p s) := by
  have off : Acts c s (closeStation p s) := closeStation_acts
  unfold abortStation; dsimp only
  split
  · exact (off.trans' (Act.members _ _ leaveSet_ordered).acts).trans' bufferAbort_acts
  · exact off

end

end Sys2Proof.Machine
end

section
/-! Every command and every step: a chain of deeds, a reset, or a change of the stop line. -/

namespace Sys2Proof.Machine

section
variable {c : Instr} {p : StationId} {s t u : State}

/-! ## Drive events -/

theorem modSt_quietly {f : Station → Station} (h : (f (s.st p)).view = (s.st p).view) : Deeds c s (s.modSt p f) :=
  (modSt_quiet h).quietly rfl

theorem takeMark_deeds {load : Option Nat} : Deeds c s (takeMark p load s) := by
  unfold takeMark; dsimp only
  split
  · exact .refl
  · next hm =>
    have cutting : (s.st p).state = .cutting := by simpa using (not_or.mp hm).1
    split
    · refine Acts.quietly (modSt_act (.counts _ _ (.inl rfl) fun h => ?_)) rfl
      exact ⟨h.1, h.2.1, Nat.min_le_left _ _, h.2.2.2⟩
    · split
      · exact .refl
      · split
        · exact (acceptMark_acts cutting).sends
        · exact .refl

theorem takeDressed_deeds {number : Nat} {length : Option Nat} : Deeds c s (takeDressed p number length s) := by
  unfold takeDressed; split
  · next hd =>
    split
    · exact .refl
    · split
      · exact (completeDressing_acts hd).sends
      · exact .refl
  · exact .refl

theorem receiveDriveByte_deeds {b : Byte} : Deeds c s (receiveDriveByte p s b) := by
  unfold receiveDriveByte; dsimp only
  split
  · exact modSt_quietly rfl
  · refine Relation.ReflTransGen.trans (b := s.modSt p
      (fun x => { x with port := { x.port with partialWord := [] } })) (modSt_quietly rfl) ?_
    unfold takeWord; dsimp only
    split
    · exact .refl
    · split
      · split
        · exact takeMark_deeds
        · exact .refl
      · split
        · split
          · exact takeDressed_deeds
          · exact .refl
        · exact .refl

theorem foldl_deeds {α : Type} {f : State → α → State} (h : ∀ s a, Deeds c s (f s a)) (l : List α) (s : State) :
    Deeds c s (l.foldl f s) := by
  induction l generalizing s with
  | nil => exact .refl
  | cons a l ih => exact (h s a).trans (ih _)

/-! ## Resets and the stop line -/

/-- The commands that reset the part. -/
def ResetCommand (c : Instr) : Prop :=
  c = .resetPin ∨ ∃ straps stop,
    c = .resetPinRelease straps stop ∨ c = .resetCompletion straps stop ∨ c = .powerOnReset straps stop

/-- The part after a reset: held in it by the pin, or with it completed. -/
def AfterReset (t : State) : Prop :=
  (∃ s, t = holdInReset s) ∨ ∃ straps stop s, t = transmit (completeReset straps stop s)

/-- The stop line changes, and the transmitter may choose (R120, R121). -/
inductive LineChange (c : Instr) (s t : State) : Prop
  | asserted (h : s.stopLine = false) (u : State) (hu : Acts c (s.setStopLine true) u) (ht : t = transmit u)
      (rest : ∀ q, (u.st q).state.working = false)
  | released (h : s.stopLine = true) (u : State) (hu : Acts c (s.setStopLine false) u) (ht : t = transmit u)
      (rest : u.stopLine = false)

theorem assertStation_acts : Acts c s (assertStation p s) := by
  have purged : Acts c s (s.modSt p (fun x =>
      { x with port := { x.port with queue := purgeQueue x.port.queue } })) := by
    refine modSt_act (.drops _ _ ?_)
    show (purgeQueue (s.st p).port.queue).Sublist (s.st p).port.queue
    cases (s.st p).port.queue with
    | nil => exact .slnil
    | cons a l => exact List.filter_sublist.cons_cons a
  unfold assertStation; dsimp only
  split
  · next hw => exact purged.trans' (stopStation_acts (by simpa using StationState.ne_off_of_working hw))
  · exact purged

/-- What an assertion of the stop line leaves of one station (R120). -/
def Station.lineAsserted (x : Station) : Station :=
  let y : Station := { x with port := { x.port with queue := purgeQueue x.port.queue } }
  if x.state.working then
    { ((y.sends .lift).sends .spinOff).leaveCutting with
      state := .stopped, holdPending := false, parkPending := false, resumeSpinup := false
      timers := Timers.stopped, dress := { y.dress with inFlight := none } }
  else y

/-- The same change of a station, spelled in two ways. -/
theorem modSt_congr {f g : Station → Station} (h : f (s.st p) = g (s.st p)) : s.modSt p f = s.modSt p g := by
  unfold State.modSt; rw [show f s.stations[p] = g s.stations[p] from h]

theorem assertStation_eq (p : StationId) (s : State) : assertStation p s = s.modSt p Station.lineAsserted := by
  unfold assertStation; dsimp only
  split
  · next h =>
    simp only [stopStation, issueLiftOff, issue, State.modSt_modSt]
    exact modSt_congr (by simp only [Station.lineAsserted, if_pos h]; rfl)
  · next h => exact modSt_congr (by simp only [Station.lineAsserted, if_neg h])

theorem forStations_assert (s : State) (q : StationId) :
    (forStations assertStation s).st q = (s.st q).lineAsserted := by
  rw [show assertStation = fun q s => s.modSt q Station.lineAsserted from
    funext fun q => funext fun s => assertStation_eq q s, forStations_modSt_st]

theorem lineAsserted_rests (x : Station) : x.lineAsserted.state.working = false := by
  unfold Station.lineAsserted; dsimp only
  split
  · rfl
  · next h => simpa using h

theorem assertLine_cases (s : State) : assertLine s = s ∨ LineChange c s (assertLine s) := by
  unfold assertLine; split
  · exact .inl rfl
  · next h =>
    refine .inr (.asserted (by simpa using h) _ ?_ rfl fun q => ?_)
    · exact (forStations_acts fun _ _ => assertStation_acts).trans' (Act.flag _ _ _).acts
    · rw [state_of_view (setFlag_view _ _ _ _), forStations_assert]; exact lineAsserted_rests _

theorem releaseLine_cases (s : State) : releaseLine s = s ∨ LineChange c s (releaseLine s) := by
  unfold releaseLine; split
  · next h => exact .inr (.released h _ (Act.flag _ _ _).acts rfl (by simp))
  · exact .inl rfl

/-! ## Every command -/

theorem answerNote_deeds : Deeds c s (answerNote s) := by
  unfold answerNote; split
  · next tag code rest _ hl => exact (Deed.note s tag code rest _ _ hl).deeds
  · next f rest _ hl =>
    split
    · exact (Deed.answers s _ _ rest _ hl .refl).deeds
    · exact .refl
  · exact .refl

theorem badKind_deeds {takes : Byte → Bool} :
    Deeds c s (handleHead takes (fun _ s => (s, .refuse .badKind)) s) := by
  unfold handleHead; split
  · next f rest _ hl =>
    split
    · exact (Deed.answers s _ _ rest _ hl .refl).deeds
    · exact .refl
  · exact .refl

theorem setDressMode_acts {mode : DressMode} {interval : Nat} : Acts c s (setDressMode p mode interval s) :=
  modSt_act (.mode _ mode interval)

theorem newTool_acts : Acts .toolChanged s (s.modSt p (fun x => { x with dress := x.dress.newTool })) :=
  modSt_act (.newTool _ rfl)

/-- Everything a command that is no request can do. -/
theorem event_cases (hk : kindOfRequest c = none) (h : exec c s = .next t) :
    Deeds c s t ∨ ResetCommand c ∧ AfterReset t ∨ LineChange c s t := by
  cases c <;> cases hk <;> cases h
  case linkFrameReceived bytes =>
    exact .inl (outOfReset_deeds fun _ => foldl_deeds (fun s b => (Deed.byte s b).deeds) bytes s)
  case lenOutOfRange hi => exact .inl (outOfReset_deeds fun _ => (Deed.byte s hi).deeds)
  case interByteGap => exact .inl (outOfReset_deeds fun _ => (Deed.gap s).deeds)
  case linkFramingError => exact .inl (outOfReset_deeds fun _ => (Deed.gap s).deeds)
  case linkError => exact .inl (outOfReset_deeds fun _ => answerNote_deeds)
  case badKind => exact .inl (outOfReset_deeds fun _ => badKind_deeds)
  case transmitterFree => exact .inl (outOfReset_deeds fun _ => (Deed.chooses s).deeds)
  case mark p load valid =>
    refine .inl (outOfReset_deeds fun _ => ?_)
    have cleared : Deeds (.mark p load valid) s
      (s.modSt p (fun x => { x with port := { x.port with partialWord := [] } })) := modSt_quietly rfl
    unfold markWord; dsimp only
    split
    · exact cleared.trans takeMark_deeds
    · exact cleared
  case dressed p number length =>
    exact .inl (outOfReset_deeds fun _ => Relation.ReflTransGen.trans
      (b := s.modSt p (fun x => { x with port := { x.port with partialWord := [] } }))
      (modSt_quietly rfl) takeDressed_deeds)
  case driveWordDiscarded p bytes =>
    exact .inl (outOfReset_deeds fun _ => foldl_deeds (fun _ _ => receiveDriveByte_deeds) bytes s)
  case driveByteGap p => exact .inl (outOfReset_deeds fun _ => modSt_quietly rfl)
  case driveCommandSent p =>
    exact .inl (outOfReset_deeds fun _ => (modSt_act (.drops _ _ (List.tail_sublist _))).quietly rfl)
  case approachTimeout p =>
    unfold inCutting; split
    · next hc => exact .inl (atExpiry_deeds (stallStation_acts (by simp [hc])).sends)
    · exact .inl .refl
  case leadTimerExpiry p =>
    unfold inCutting; split
    · next hc =>
      refine .inl (atExpiry_deeds ((leadExpires_acts hc).quietly ?_))
      unfold leadExpires; dsimp only; split <;> rfl
    · exact .inl .refl
  case blankTimerExpiry p =>
    unfold inCutting; split
    · exact .inl (atExpiry_deeds (modSt_quietly rfl))
    · exact .inl .refl
  case missTimeout p =>
    unfold inCutting; split
    · next hc => exact .inl (atExpiry_deeds (missExpires_acts hc).sends)
    · exact .inl .refl
  case settleExpiry p =>
    split
    · next hs =>
      refine .inl (atExpiry_deeds ((startClosing_acts (by rw [hs]; rfl)).quietly ?_))
      rfl
    · exact .inl .refl
  case dressTimeout p =>
    split
    · next hd => exact .inl (atExpiry_deeds (stallStation_acts (by simp [hd])).sends)
    · exact .inl .refl
  case stopLineAsserted =>
    unfold outOfReset; split
    · exact .inl .refl
    · obtain e | hl := assertLine_cases (c := .stopLineAsserted) s
      · rw [e]; exact .inl .refl
      · exact .inr (.inr hl)
  case stopLineReleased =>
    unfold outOfReset; split
    · exact .inl .refl
    · obtain e | hl := releaseLine_cases (c := .stopLineReleased) s
      · rw [e]; exact .inl .refl
      · exact .inr (.inr hl)
  case resetPin => exact .inr (.inl ⟨.inl rfl, .inl ⟨s, rfl⟩⟩)
  case resetPinRelease straps stop =>
    split
    · exact .inr (.inl ⟨.inr ⟨straps, stop, .inl rfl⟩, .inr ⟨straps, stop, s, rfl⟩⟩)
    · exact .inl .refl
  case resetCompletion straps stop =>
    unfold outOfReset; split
    · exact .inl .refl
    · dsimp only; split
      · exact .inr (.inl ⟨.inr ⟨straps, stop, .inr (.inl rfl)⟩, .inr ⟨straps, stop, s, rfl⟩⟩)
      · exact .inl .refl
  case powerOnReset straps stop =>
    split
    · exact .inr (.inl ⟨.inr ⟨straps, stop, .inr (.inr rfl)⟩, .inl ⟨s, rfl⟩⟩)
    · exact .inr (.inl ⟨.inr ⟨straps, stop, .inr (.inr rfl)⟩, .inr ⟨straps, stop, s, rfl⟩⟩)

/-- Every request is handled by one block: refused with nothing changed, or carried out by acts, or as RESET is (R159,
R160). -/
theorem request_block {kind : Byte} (h : kindOfRequest c = some kind) :
    ∃ block : List Byte → State → State × Answer, (∀ s, exec c s = .next (handleRequest kind block s)) ∧
      ∀ payload s, ∃ refusal effect data, block payload s = refusedOr refusal (effect, .done data) s ∧
        (refusal = none → Acts c s effect ∨ effect = (s.setReceiver .deaf).setResetting true) := by
  cases c <;> cases h
  case status => exact ⟨statusBlock, fun _ => rfl, fun _ _ => ⟨_, _, _, rfl, fun _ => .inl .refl⟩⟩
  case setupDefine =>
    exact ⟨setupDefineBlock, fun _ => rfl, fun _ _ => ⟨_, _, _, rfl, fun _ => .inl defineSetup_acts⟩⟩
  case setupClose =>
    exact ⟨setupCloseBlock, fun _ => rfl, fun _ _ => ⟨_, _, _, rfl, fun _ => .inl closeSetup_acts⟩⟩
  case stationConfig =>
    exact ⟨stationConfigBlock, fun _ => rfl, fun _ _ => ⟨_, _, _, rfl, fun _ => .inl configure_acts⟩⟩
  case windowSet =>
    exact ⟨windowSetBlock, fun _ => rfl, fun _ _ => ⟨_, _, _, rfl, fun _ => .inl (Act.windows _ _).acts⟩⟩
  case windowClear =>
    exact ⟨windowClearBlock, fun _ => rfl, fun _ _ => ⟨_, _, _, rfl, fun _ => .inl (Act.windows _ _).acts⟩⟩
  case row => exact ⟨rowBlock, fun _ => rfl, fun _ _ => ⟨_, _, _, rfl, fun _ => .inl storeRow_acts⟩⟩
  case start =>
    refine ⟨startBlock, fun _ => rfl, fun payload u => ⟨_, _, _, rfl, fun hn => .inl ?_⟩⟩
    simp only [startCheck, Option.or_eq_none_iff, checkThat_eq_none, List.all_eq_true, decide_eq_true_eq,
      Bool.not_eq_true'] at hn
    obtain ⟨_, _, _, idle, released, _⟩ := hn
    exact (startStations_acts released _ fun p hp => by simp [idle p hp]).trans' (Act.setup _ _).acts
  case hold => exact ⟨holdBlock, fun _ => rfl, fun _ _ => ⟨_, _, _, rfl, fun _ => .inl holdStation_acts⟩⟩
  case resume =>
    refine ⟨resumeBlock, fun _ => rfl, fun payload u => ⟨_, _, _, rfl, fun hn => .inl ?_⟩⟩
    obtain ⟨named, spindle⟩ := Option.or_eq_none_iff.mp hn
    obtain ⟨released, serves⟩ := checkSpindle_eq_none.mp spindle
    exact resumeStation_acts (checkNamed_eq_none.mp named).2.2 released serves
  case park => exact ⟨parkBlock, fun _ => rfl, fun _ _ => ⟨_, _, _, rfl, fun _ => .inl parkStation_acts⟩⟩
  case unpark =>
    refine ⟨unparkBlock, fun _ => rfl, fun payload u => ⟨_, _, _, rfl, fun hn => .inl ?_⟩⟩
    obtain ⟨named, spindle⟩ := Option.or_eq_none_iff.mp hn
    have parked := (checkNamed_eq_none.mp named).2.2
    exact enterSpinup_acts (checkSpindle_eq_none.mp spindle).1 (by simp [of_decide_eq_true parked])
  case abort => exact ⟨abortBlock, fun _ => rfl, fun _ _ => ⟨_, _, _, rfl, fun _ => .inl abortStation_acts⟩⟩
  case stepCell =>
    refine ⟨stepBlock, fun _ => rfl, fun payload u => ⟨_, _, _, rfl, fun hn => .inl ?_⟩⟩
    obtain ⟨named, _⟩ := Option.or_eq_none_iff.mp hn
    exact stepRun_acts (of_decide_eq_true (checkNamed_eq_none.mp named).2.2)
  case dressMode =>
    exact ⟨dressModeBlock, fun _ => rfl, fun _ _ => ⟨_, _, _, rfl, fun _ => .inl setDressMode_acts⟩⟩
  case toolChanged =>
    exact ⟨toolChangedBlock, fun _ => rfl, fun _ _ => ⟨_, _, _, rfl, fun _ => .inl newTool_acts⟩⟩
  case stationStatus => exact ⟨stationStatusBlock, fun _ => rfl, fun _ _ => ⟨_, _, _, rfl, fun _ => .inl .refl⟩⟩
  case readStock => exact ⟨readStockBlock, fun _ => rfl, fun _ _ => ⟨_, _, _, rfl, fun _ => .inl .refl⟩⟩
  case noticeMask =>
    exact ⟨noticeMaskBlock, fun _ => rfl, fun _ _ => ⟨_, _, _, rfl, fun _ => .inl (Act.mask _ _ _).acts⟩⟩
  case noticeClear =>
    exact ⟨noticeClearBlock, fun _ => rfl, fun _ _ => ⟨_, _, _, rfl, fun _ => .inl (Act.clear _ _ _).acts⟩⟩
  case resetRequest => exact ⟨resetBlock, fun _ => rfl, fun _ _ => ⟨_, _, _, rfl, fun _ => .inr rfl⟩⟩

/-- A request is one deed: the head is answered after acts, or as RESET is. -/
theorem request_deeds {kind : Byte} (hk : kindOfRequest c = some kind) (h : exec c s = .next t) : Deeds c s t := by
  obtain ⟨block, he, hb⟩ := request_block hk
  rw [he] at h; cases h
  obtain e | ⟨f, rest, _, ⟨_, _, _, hl⟩, e⟩ := handleRequest_cases kind block s
  · rw [e]
  · rw [e]
    obtain ⟨refusal, effect, data, eb, ha⟩ := hb f.payload (s.setList rest)
    rw [eb]
    obtain ⟨a, _, er⟩ | ⟨hn, er⟩ := refusedOr_cases refusal (effect, .done data) (s.setList rest) <;> rw [er]
    · exact (Deed.answers s _ _ rest _ hl .refl).deeds
    · obtain ha | rfl := ha hn
      · exact (Deed.answers s _ _ rest _ hl ha).deeds
      · exact (Deed.resets s _ rest _ hl).deeds

/-- Everything a command can do (95_what_each_step_holds). -/
theorem exec_cases (h : exec c s = .next t) :
    Deeds c s t ∨ ResetCommand c ∧ AfterReset t ∨ LineChange c s t := by
  cases hk : kindOfRequest c with
  | some kind => exact .inl (request_deeds hk h)
  | none => exact event_cases hk h

end

end Sys2Proof.Machine
end

section
/-! What every step keeps: the kept conditions derived from the moves, acts and deeds of a command. -/

namespace Sys2Proof.Machine

section
variable {c : Instr} {s t : State}

/-! ## What the host link leaves alone -/

/-- The parts that the conditions on stations, slots and members read are the same. -/
structure SameCore (s t : State) : Prop where
  stations : t.stations = s.stations
  slots : t.slots = s.slots
  members : t.members = s.members
  stopLine : t.stopLine = s.stopLine

theorem chooseFrame_sameCore (s : State) : SameCore s (chooseFrame s) := by
  rw [chooseFrame_eq]; exact ⟨rfl, rfl, rfl, rfl⟩

theorem transmit_sameCore (s : State) : SameCore s (transmit s) := by
  rw [transmit_eq]; exact ⟨rfl, rfl, rfl, rfl⟩

/-- What acts keep and the host link does not touch, deeds keep. -/
theorem Deeds.keeps_core {P : State → Prop} (blind : ∀ s t, SameCore s t → P s → P t)
    (act : ∀ s t, Act c s t → P s → P t) (h : Deeds c s t) : P s → P t := by
  refine Deeds.keeps (fun s t d hs => ?_) h
  cases d with
  | acts u h _ => exact h.keeps act hs
  | sends u h => exact blind _ _ (transmit_sameCore u) (h.keeps act hs)
  | chooses => exact blind _ _ (chooseFrame_sameCore s) hs
  | byte b => refine blind s _ ?_ hs; rw [receiveByte_eq]; exact ⟨rfl, rfl, rfl, rfl⟩
  | gap => exact blind s _ ⟨rfl, rfl, rfl, rfl⟩ hs
  | answers u e rest r _ h =>
    refine blind u _ ?_ (h.keeps act (blind s _ ⟨rfl, rfl, rfl, rfl⟩ hs))
    rw [transmit_eq]; exact ⟨rfl, rfl, rfl, rfl⟩
  | note tag code rest r x _ => refine blind s _ ?_ hs; rw [transmit_eq]; exact ⟨rfl, rfl, rfl, rfl⟩
  | resets e rest r _ => refine blind s _ ?_ hs; rw [transmit_eq]; exact ⟨rfl, rfl, rfl, rfl⟩

/-! ## Every command and every step -/

/-- What acts and the stop line keep, the host link does not touch and a reset makes true, every command keeps. -/
theorem exec_keeps {P : State → Prop} (blind : ∀ s t, SameCore s t → P s → P t)
    (line : ∀ s b, P s → P (s.setStopLine b)) (act : ∀ c s t, Act c s t → P s → P t)
    (reset : ∀ t, AfterReset t → P t) (h : exec c s = .next t) (hs : P s) : P t := by
  obtain d | ⟨_, r⟩ | l := exec_cases h
  · exact d.keeps_core blind (act c) hs
  · exact reset t r
  · cases l with
    | asserted _ u hu ht _ => rw [ht]; exact blind _ _ (transmit_sameCore u) (hu.keeps (act c) (line s _ hs))
    | released _ u hu ht _ => rw [ht]; exact blind _ _ (transmit_sameCore u) (hu.keeps (act c) (line s _ hs))

/-- A step is a tick boundary or a command (R14). -/
theorem step_cases (h : step s = .next t) :
    t = tickBoundary s ∨ ∃ c rest, s.pending = c :: rest ∧ exec c (s.setPending rest) = .next t := by
  unfold step at h
  split at h
  · cases h; exact .inl rfl
  · next c rest hp => exact .inr ⟨c, rest, hp, h⟩

theorem step_keeps {P : State → Prop} (blind : ∀ s t, SameCore s t → P s → P t)
    (line : ∀ s b, P s → P (s.setStopLine b)) (act : ∀ c s t, Act c s t → P s → P t)
    (reset : ∀ t, AfterReset t → P t) (h : step s = .next t) (hs : P s) : P t := by
  obtain rfl | ⟨c, rest, _, h⟩ := step_cases h
  · exact blind s _ ⟨rfl, rfl, rfl, rfl⟩ hs
  · exact exec_keeps blind line act reset h (blind s _ ⟨rfl, rfl, rfl, rfl⟩ hs)

/-! ## Stations -/

/-- The stop line stays and every station makes moves. -/
def Goes (c : Instr) (s t : State) : Prop :=
  t.stopLine = s.stopLine ∧ ∀ q, Moves c s.stopLine (s.st q).view (t.st q).view

theorem setNoticeSets_view (s : State) (src : Source) (n : NoticeSets) (q : StationId) :
    ((s.setNoticeSets src n).st q).view = (s.st q).view := by
  cases src with
  | global => rfl
  | station p =>
    show ((s.modSt p (fun x => { x with notices := n })).st q).view = _
    rw [State.modSt_st]; split
    · next h => subst h; rfl
    · rfl

theorem Act.goes (h : Act c s t) : Goes c s t := by
  cases h with
  | station p f h =>
    refine ⟨rfl, fun q => ?_⟩
    rw [State.modSt_st]; split
    · next e => subst e; exact h
    · exact .refl
  | flag src flag => exact ⟨by simp, fun q => by rw [setFlag_view]⟩
  | mask src enable =>
    unfold maskSource; dsimp only
    split
    · exact ⟨by simp, fun q => by rw [State.queueSource_st, setNoticeSets_view]⟩
    · exact ⟨by simp, fun q => by rw [setNoticeSets_view]⟩
  | clear src flags => exact ⟨by simp [clearSource], fun q => by rw [clearSource, setNoticeSets_view]⟩
  | _ => exact ⟨rfl, fun _ => .refl⟩

theorem Goes.of_sameCore (h : SameCore s t) : Goes c s t :=
  ⟨h.stopLine, fun q => by rw [show t.st q = s.st q by unfold State.st; rw [h.stations]]⟩

theorem Goes.trans {u : State} (h : Goes c s t) (k : Goes c t u) : Goes c s u :=
  ⟨k.1.trans h.1, fun q => (h.2 q).trans (h.1 ▸ k.2 q)⟩

theorem Acts.goes (h : Acts c s t) : Goes c s t :=
  h.keeps (P := Goes c s) (fun _ _ a k => k.trans a.goes) ⟨rfl, fun _ => .refl⟩

theorem Deeds.goes (h : Deeds c s t) : Goes c s t :=
  h.keeps_core (P := Goes c s) (fun _ _ e k => k.trans (.of_sameCore e)) (fun _ _ a k => k.trans a.goes)
    ⟨rfl, fun _ => .refl⟩

theorem State.st_replicate {s : State} {x : Station} (h : s.stations = Vector.replicate 6 x) (q : StationId) :
    s.st q = x := by simp [State.st, h]

theorem AfterReset.view (h : AfterReset t) (q : StationId) :
    (t.st q).view = Station.reset.view ∨ (t.st q).view = Station.cleared.view := by
  obtain ⟨s, rfl⟩ | ⟨straps, stop, s, rfl⟩ := h
  · exact .inr (congrArg _ (State.st_replicate rfl q))
  · refine .inl ?_
    rw [transmit_st, completeReset]
    split
    · rw [setFlag_view]; exact congrArg _ (State.st_replicate rfl q)
    · exact congrArg _ (State.st_replicate rfl q)

/-- Whatever a command does, a station makes moves, or the part was reset. -/
theorem exec_moves (h : exec c s = .next t) (q : StationId) :
    (∃ stop, Moves c stop (s.st q).view (t.st q).view) ∨
      ResetCommand c ∧ ((t.st q).view = Station.reset.view ∨ (t.st q).view = Station.cleared.view) := by
  obtain d | ⟨hc, r⟩ | l := exec_cases h
  · exact .inl ⟨_, d.goes.2 q⟩
  · exact .inr ⟨hc, r.view q⟩
  · cases l with
    | asserted _ u hu ht _ => exact .inl ⟨_, by rw [ht, transmit_st]; exact hu.goes.2 q⟩
    | released _ u hu ht _ => exact .inl ⟨_, by rw [ht, transmit_st]; exact hu.goes.2 q⟩

/-- What every move of a station keeps and a reset makes true, every step keeps of every station. -/
theorem step_keeps_views {P : View → Prop} (move : ∀ c stop v w, Move c stop v w → P v → P w)
    (reset : P Station.reset.view) (cleared : P Station.cleared.view) (h : step s = .next t)
    (hs : ∀ q, P (s.st q).view) (q : StationId) : P (t.st q).view := by
  obtain rfl | ⟨c, rest, _, h⟩ := step_cases h
  · exact hs q
  · obtain ⟨stop, m⟩ | ⟨_, e | e⟩ := exec_moves h q
    · exact m.keeps (move c stop) (hs q)
    · rwa [e]
    · rwa [e]

end

end Sys2Proof.Machine
end

section
/-! The conditions on stations that every step keeps: queues, histories, dressing records, counts, worn tools, the stop
line, OFF. -/

namespace Sys2Proof.Machine

/-! ## Dressing records -/

/-- A gauge result changes the reference, the wear, which never falls, and the worn flag, which a wear above WMAX has
set afterwards if it had before (R131). -/
theorem DressRecord.takeGauge_eq (r : DressRecord) (kind : DressKind) (length : Option Nat) :
    ∃ ref wear worn, r.takeGauge kind length = { r with ref := ref, wear := wear, worn := worn } ∧ r.wear ≤ wear ∧
      ((300 < r.wear → r.worn = true) → 300 < wear → worn = true) := by
  cases length with
  | none => exact ⟨r.ref, r.wear, r.worn, rfl, le_rfl, id⟩
  | some len =>
    have flag : ∀ wear, 300 < wear → (r.worn || decide (Config.wearMax < wear)) = true := by
      intro wear h; simp [Config.wearMax, h]
    unfold DressRecord.takeGauge; dsimp only
    split
    · exact ⟨_, _, _, rfl, le_rfl, fun _ => flag _⟩
    · split
      · exact ⟨_, _, _, rfl, Nat.le_max_left _ _, fun _ => flag _⟩
      · cases kind with
        | closing => exact ⟨_, _, _, rfl, le_rfl, fun _ => flag _⟩
        | owed _ => exact ⟨_, _, _, rfl, le_rfl, fun _ => flag _⟩

/-- A credited dressing is no longer in flight, and the owed count does not rise (R130). -/
theorem DressRecord.credit_eq (r : DressRecord) (f : Dressing) :
    ∃ due owed, r.credit f =
      { r with inFlight := none, qsum := (r.qsum + f.quarters) % 4, due := due, owed := owed } ∧ owed ≤ r.owed := by
  unfold DressRecord.credit; dsimp only
  split
  · exact ⟨_, _, rfl, Nat.sub_le _ _⟩
  · exact ⟨_, _, rfl, Nat.zero_le _⟩

/-- What a completion leaves of the record (R130, R131). -/
theorem DressRecord.complete_eq (r : DressRecord) (f : Dressing) (length : Option Nat) :
    ∃ due owed ref wear worn, r.complete f length =
      { r with
        inFlight := none, qsum := (r.qsum + f.quarters) % 4, due := due, owed := owed, ref := ref, wear := wear
        worn := worn } ∧ owed ≤ r.owed ∧ r.wear ≤ wear ∧
      ((300 < r.wear → r.worn = true) → 300 < wear → worn = true) := by
  obtain ⟨due, owed, credit, howed⟩ := r.credit_eq f
  unfold DressRecord.complete; split
  · obtain ⟨ref, wear, worn, gauge, hwear, hworn⟩ := (r.credit f).takeGauge_eq f.kind length
    rw [gauge]
    rw [credit] at hwear hworn ⊢
    exact ⟨due, owed, ref, wear, worn, rfl, howed, hwear, hworn⟩
  · exact ⟨due, owed, r.ref, r.wear, r.worn, credit, howed, le_rfl, id⟩

/-- A cut cell changes the due and owed count alone, and the owed count saturates (R125). -/
theorem DressRecord.countCut_eq (r : DressRecord) :
    ∃ due owed, r.countCut = { r with due := due, owed := owed } ∧ (r.owed ≤ 65535 → owed ≤ 65535) := by
  unfold DressRecord.countCut; split
  · exact ⟨_, _, rfl, fun _ => satUp_le _⟩
  · exact ⟨_, _, rfl, id⟩

/-! ## The conditions on a view -/

section
variable {c : Instr} {stop : Bool} {v w : View}

theorem Move.keeps_queue (m : Move c stop v w) (h : v.queue.length ≤ 16) : w.queue.length ≤ 16 := by
  cases m with
  | sends d _ => exact enqueueCmd_length d _ h
  | drops q hq => exact hq.length_le.trans h
  | _ => exact h

/-- A history within R75. -/
def HistoryInRange (l : List Nat) : Prop := l.length ≤ 8 ∧ ∀ n ∈ l, 1 ≤ n ∧ n ≤ 65535

theorem Move.keeps_history (m : Move c stop v w) (h : HistoryInRange v.captures) : HistoryInRange w.captures := by
  cases m with
  | captures raw => exact ⟨pushCapture_length_le _ _, pushCapture_range _ h.2⟩
  | clears | shuts => exact ⟨by simp, by simp⟩
  | _ => exact h

theorem Move.keeps_quarters (m : Move c stop v w) (h : v.dress.qsum ≤ 3) : w.dress.qsum ≤ 3 := by
  cases m with
  | completes f length _ =>
    obtain ⟨_, _, _, _, _, e, _⟩ := v.dress.complete_eq f length
    have := Nat.mod_lt (v.dress.qsum + f.quarters) (show 0 < 4 by decide)
    simp only [e]; omega
  | wears => obtain ⟨_, _, e, _⟩ := v.dress.countCut_eq; simpa only [e] using h
  | newTool => exact Nat.zero_le _
  | _ => exact h

/-- The consecutive forced count within the limit of the configuration (R93). -/
def View.ForcedWithinLimit (v : View) : Prop := ∀ cfg, v.config = some cfg → v.counts.forcedRun ≤ cfg.forcedLimit

theorem Move.keeps_forced (m : Move c stop v w) (h : v.ForcedWithinLimit) : w.ForcedWithinLimit := by
  intro cfg hc
  cases m with
  | counts n run _ =>
    have := h cfg hc
    obtain run | run := run
    · rw [run]; exact this
    · rw [run]; exact Nat.zero_le _
  | forces hf => rw [show v.config = some cfg from hc] at hf; exact hf
  | shuts => cases hc
  | configures => exact Nat.zero_le _
  | _ => exact h cfg hc

/-- The counts of a station within their bounds. -/
def View.CountsBounded (v : View) : Prop :=
  v.counts.Saturated ∧ v.dress.owed ≤ 65535 ∧ ∀ n, v.pass = some n → n ≤ 65535

theorem Station.countsBounded_iff (x : Station) : x.CountsBounded ↔ x.view.CountsBounded := by
  simp [Station.CountsBounded, View.CountsBounded, Counts.Saturated, Station.view, and_assoc]

theorem Move.keeps_counts (m : Move c stop v w) (h : v.CountsBounded) : w.CountsBounded := by
  obtain ⟨sat, owed, pass⟩ := h
  cases m with
  | completes f length _ =>
    obtain ⟨_, _, _, _, _, e, ho, _⟩ := v.dress.complete_eq f length
    exact ⟨sat, by simpa only [e] using ho.trans owed, pass⟩
  | wears => obtain ⟨_, _, e, ho⟩ := v.dress.countCut_eq; exact ⟨sat, by simpa only [e] using ho owed, pass⟩
  | forgives | newTool => exact ⟨sat, Nat.zero_le _, pass⟩
  | counts n _ hs => exact ⟨hs sat, owed, pass⟩
  | forces _ =>
    obtain ⟨h1, h2, h3, h4, _, h6⟩ := sat
    exact ⟨⟨h1, h2, h3, h4, satUp_le _, h6⟩, owed, pass⟩
  | passes n hn => exact ⟨sat, owed, hn⟩
  | shuts => exact ⟨sat, Nat.zero_le _, by simp⟩
  | _ => exact ⟨sat, owed, pass⟩

/-! ## Worn tools -/

/-- A worn station rests (R131). -/
def View.WornRests (v : View) : Prop :=
  (300 < v.dress.wear → v.dress.worn = true) ∧
  (v.dress.worn = true → v.state ≠ .cutting ∧ v.state ≠ .waiting ∧
    ∀ f, v.state = .dressing → v.dress.inFlight = some f → f.kind = .closing)

/-- The tool of a station where only a serving tool is used is not worn. -/
theorem View.WornRests.not_worn (h : v.WornRests) (hs : v.serves) : v.dress.worn = false := by
  by_contra hw
  obtain ⟨notCutting, notWaiting, _⟩ := h.2 (by simpa using hw)
  obtain hs | hs | hs := hs
  · exact hw hs
  · exact notCutting hs
  · exact notWaiting hs

theorem Move.keeps_wornRests (m : Move c stop v w) (h : v.WornRests) : w.WornRests := by
  have resting : ∀ st : StationState, st ≠ .cutting → st ≠ .waiting → st ≠ .dressing →
      { v with state := st }.WornRests := fun st h1 h2 h3 => ⟨h.1, fun _ => ⟨h1, h2, fun f e => absurd e h3⟩⟩
  cases m with
  | rests st hst _ => refine resting st ?_ ?_ ?_ <;> rintro rfl <;> exact absurd hst (by decide)
  | holds _ => exact resting .held (by decide) (by decide) (by decide)
  | spins _ _ => exact resting .spinup (by decide) (by decide) (by decide)
  | cuts st _ _ hs => exact ⟨h.1, fun hw => absurd (h.not_worn hs) (by simpa using hw)⟩
  | dresses f _ hk =>
    refine ⟨h.1, fun hw => ⟨by simp, by simp, fun g _ hg => ?_⟩⟩
    obtain rfl : f = g := by simpa using hg
    exact hk.resolve_right fun hs => absurd (h.not_worn hs) (by simpa using hw)
  | completes f length hd =>
    obtain ⟨_, _, _, _, _, e, _, _, hworn⟩ := v.dress.complete_eq f length
    simp only [View.WornRests, e, hd]
    exact ⟨hworn h.1, fun _ => ⟨by simp, by simp, by simp⟩⟩
  | grounds => exact ⟨h.1, fun hw => ⟨(h.2 hw).1, (h.2 hw).2.1, by simp⟩⟩
  | wears => obtain ⟨_, _, e, _⟩ := v.dress.countCut_eq; simpa only [View.WornRests, e] using h
  | newTool =>
    exact ⟨fun k => absurd k (by simp [DressRecord.newTool]), fun k => absurd k (by simp [DressRecord.newTool])⟩
  | shuts => exact ⟨h.1, fun _ => ⟨by simp, by simp, by simp⟩⟩
  | configures => exact resting .idle (by decide) (by decide) (by decide)
  | _ => exact h

theorem Move.wear_le (m : Move c stop v w) (hc : c ≠ .toolChanged) : v.dress.wear ≤ w.dress.wear := by
  cases m with
  | completes f length _ =>
    obtain ⟨_, _, _, _, _, e, _, hwear, _⟩ := v.dress.complete_eq f length
    simpa only [e] using hwear
  | wears => obtain ⟨_, _, e, _⟩ := v.dress.countCut_eq; simp only [e]; exact le_rfl
  | newTool h => exact absurd h hc
  | _ => exact le_rfl

/-! ## The stop line and OFF -/

/-- While the stop line is asserted a station that does not work begins nothing, and no command that moves joins its
queue (R121). -/
theorem Move.keeps_stopped (m : Move c true v w) (h : v.state.working = false) :
    w.state.working = false ∧ ∀ d ∈ w.queue, d.moves = true → d ∈ v.queue := by
  have same : ∀ d ∈ v.queue, d.moves = true → d ∈ v.queue := fun _ hd _ => hd
  cases m with
  | sends d hd =>
    refine ⟨h, fun e he hm => (mem_enqueueCmd he).resolve_right ?_⟩
    rintro rfl
    obtain k | k := hd hm
    · cases k
    · rw [h] at k; cases k
  | drops q hq => exact ⟨h, fun d hd _ => hq.subset hd⟩
  | rests st hst _ => exact ⟨hst, same⟩
  | spins _ hs => cases hs
  | holds k | cuts _ _ k _ | dresses _ k _ => rw [h] at k; cases k
  | shuts | configures => exact ⟨rfl, same⟩
  | _ => exact ⟨h, same⟩

theorem Move.keeps_off (m : Move c stop v w) (hc : c ≠ .stationConfig) (h : v.state = .off) : w.state = .off := by
  cases m with
  | rests st _ k => exact k h
  | spins k _ => exact absurd h k
  | holds k | cuts _ _ k _ | dresses _ k _ => rw [h] at k; cases k
  | shuts => rfl
  | configures _ k => exact absurd k hc
  | _ => exact h

end

/-! ## The statements on stations -/

/-- Settles O55: histories, quarter sums, forced counts and saturating counts are each kept by every move. -/
theorem stationCountsStayInRange : Obligations.StationCountsStayInRange := by
  intro s t h
  refine ⟨fun hs => ?_, fun hs => ?_, fun hs => ?_, fun hs q => ?_⟩
  · exact step_keeps_views (P := fun v => HistoryInRange v.captures) (fun _ _ _ _ m => m.keeps_history)
      ⟨by decide, by decide⟩ ⟨by decide, by decide⟩ h hs
  · exact step_keeps_views (P := fun v => v.dress.qsum ≤ 3) (fun _ _ _ _ m => m.keeps_quarters)
      (by decide) (by decide) h hs
  · exact step_keeps_views (P := View.ForcedWithinLimit) (fun _ _ _ _ m => m.keeps_forced)
      (fun _ k => by cases k) (fun _ k => by cases k) h hs
  · have zero : View.CountsBounded Station.cleared.view := by
      rw [← Station.countsBounded_iff]; exact ⟨by decide, by decide, by decide, by decide, by decide, by decide,
        by decide, fun _ k => by cases k⟩
    exact (Station.countsBounded_iff _).mpr (step_keeps_views (P := View.CountsBounded)
      (fun _ _ _ _ m => m.keeps_counts) zero zero h (fun q => (Station.countsBounded_iff _).mp (hs q)) q)

/-- Settles O57: a worn tool rests through every move, and only a new tool or a reset lowers a wear. -/
theorem wornToolsRestAndWearNeverFalls : Obligations.WornToolsRestAndWearNeverFalls := by
  have unworn : View.WornRests Station.cleared.view := ⟨by decide, fun k => absurd k (by decide)⟩
  refine ⟨fun s t hs h => step_keeps_views (P := View.WornRests) (fun _ _ _ _ m => m.keeps_wornRests) unworn
      unworn h hs, fun s t c h tool pin other q => ?_⟩
  obtain ⟨stop, m⟩ | ⟨k, _⟩ := exec_moves h q
  · exact m.keeps (P := fun v => (s.st q).dress.wear ≤ v.dress.wear)
      (fun _ _ m k => k.trans (m.wear_le tool)) le_rfl
  · obtain k | ⟨straps, stop, k | k | k⟩ := k
    · exact absurd k pin
    · exact absurd k (other straps stop).1
    · exact absurd k (other straps stop).2.1
    · exact absurd k (other straps stop).2.2

/-- Settles O59: no move but STATION CONFIG leads out of OFF, and a reset leads into it. -/
theorem offStationLeavesOnlyByConfig : Obligations.OffStationLeavesOnlyByConfig := by
  intro s t c h hc q off
  obtain ⟨stop, m⟩ | ⟨_, e | e⟩ := exec_moves h q
  · exact m.keeps (P := fun v => v.state = .off) (fun _ _ m => m.keeps_off hc) off
  · exact (congrArg View.state e).trans rfl
  · exact (congrArg View.state e).trans rfl

/-- Under an asserted line a station that does not work goes on resting, and its queue gains no command that moves. -/
theorem Goes.stopped {c : Instr} {s t : State} (h : Goes c s t) (hs : s.stopLine = true) (q : StationId)
    (hq : (s.st q).state.working = false) :
    (t.st q).state.working = false ∧ ∀ d ∈ (t.st q).port.queue, d.moves = true → d ∈ (s.st q).port.queue := by
  have m := h.2 q
  rw [hs] at m
  refine m.keeps (P := fun v => v.state.working = false ∧ ∀ d ∈ v.queue, d.moves = true → d ∈ (s.st q).port.queue)
    (fun v w m ⟨rest, queue⟩ => ?_) ⟨hq, fun _ hd _ => hd⟩
  obtain ⟨rest', queue'⟩ := m.keeps_stopped rest
  exact ⟨rest', fun d hd hm => queue d (queue' d hd hm) hm⟩

/-- Settles O56: with the line asserted every move rests (`Move.keeps_stopped`); an assertion and a reset leave every
station at rest. -/
theorem nothingMovesWhileStopLineAsserted : Obligations.NothingMovesWhileStopLineAsserted := by
  intro s t hs h
  obtain rfl | ⟨c, rest, _, h⟩ := step_cases h
  · exact ⟨hs, fun _ _ _ _ hd _ => hd⟩
  obtain d | ⟨_, r⟩ | l := exec_cases h
  · have go := d.goes
    exact ⟨fun ht q => (go.stopped (go.1.symm.trans ht) q (hs (go.1.symm.trans ht) q)).1,
      fun ha _ q => (go.stopped ha q (hs ha q)).2⟩
  · refine ⟨fun _ q => ?_, fun _ _ q d hd hm => ?_⟩
    · obtain e | e := r.view q <;> rw [show (t.st q).state = _ from congrArg View.state e] <;> rfl
    · obtain e | e := r.view q
      · rw [show (t.st q).port.queue = [.lift, .spinOff] from congrArg View.queue e] at hd
        obtain rfl | rfl : d = .lift ∨ d = .spinOff := by simpa using hd
        · cases hm
        · cases hm
      · rw [show (t.st q).port.queue = [] from congrArg View.queue e] at hd
        cases hd
  · cases l with
    | asserted off u _ ht rest =>
      subst ht
      refine ⟨fun _ q => by rw [transmit_st]; exact rest q, fun on => ?_⟩
      rw [show s.stopLine = false from off] at on; cases on
    | released _ u _ ht off =>
      subst ht
      refine ⟨fun on => ?_, fun _ on => ?_⟩ <;> rw [transmit_stopLine, off] at on <;> cases on

end Sys2Proof.Machine
end

section
/-! The conditions on the host link, the notice queue, the ports, the slots and the participation set that every step
keeps, and what a reset makes true of them. -/

namespace Sys2Proof.Machine

section
variable {c : Instr} {s t : State}

/-! ## The notice queue -/

/-- A source joins the notice queue at most once (R150). -/
theorem queueSource_nodup {src : Source} (h : s.noticeQueue.Nodup) : (s.queueSource src).noticeQueue.Nodup := by
  unfold State.queueSource; split
  · exact h
  · next hm =>
    rw [State.setQueue_noticeQueue, ← List.concat_eq_append, List.nodup_concat]
    exact ⟨hm, h⟩

theorem setFlag_nodup {src : Source} {flag : FlagSet} (h : s.noticeQueue.Nodup) :
    (setFlag src flag s).noticeQueue.Nodup := by
  unfold setFlag; dsimp only
  split
  · exact h
  · split
    · exact queueSource_nodup (by simpa using h)
    · simpa using h

theorem maskSource_nodup {src : Source} {enable : FlagSet} (h : s.noticeQueue.Nodup) :
    (maskSource src enable s).noticeQueue.Nodup := by
  unfold maskSource; dsimp only
  split
  · exact queueSource_nodup (by simpa using h)
  · simpa using h

theorem Act.keeps_queueOnce (a : Act c s t) (h : s.QueueOnce) : t.QueueOnce := by
  cases a with
  | flag src flag => exact setFlag_nodup h
  | mask src enable => exact maskSource_nodup h
  | clear src flags => unfold State.QueueOnce clearSource; rwa [State.setNoticeSets_noticeQueue]
  | _ => exact h

/-- The transmitter takes sources from the head of the notice queue (R151). -/
theorem sendNotice_sublist (q : List Source) (s : State) : (sendNotice q s).noticeQueue.Sublist q := by
  induction q with
  | nil => exact .slnil
  | cons src rest ih =>
    unfold sendNotice; split
    · exact ih.cons src
    · exact List.sublist_cons_self src rest

theorem chooseFrame_sublist (s : State) : (chooseFrame s).noticeQueue.Sublist s.noticeQueue := by
  unfold chooseFrame; split
  · exact .refl _
  · split
    · exact .refl _
    · exact sendNotice_sublist _ s

theorem transmit_sublist (s : State) : (transmit s).noticeQueue.Sublist s.noticeQueue := by
  unfold transmit; split
  · exact .refl _
  · exact chooseFrame_sublist s

theorem Deed.keeps_queueOnce (d : Deed c s t) (h : s.QueueOnce) : t.QueueOnce := by
  have acts : ∀ {s u : State}, Acts c s u → s.QueueOnce → u.QueueOnce :=
    fun hu => hu.keeps fun _ _ => Act.keeps_queueOnce
  cases d with
  | acts u hu _ => exact acts hu h
  | sends u hu => exact (acts hu h).sublist (transmit_sublist u)
  | chooses => exact h.sublist (chooseFrame_sublist s)
  | byte b => rw [receiveByte_eq]; exact h
  | gap => exact h
  | answers u e rest r _ hu =>
    have once : u.QueueOnce := acts hu (s := s.setList rest) h
    exact once.sublist (transmit_sublist _)
  | note tag code rest r x _ => exact List.Nodup.sublist (transmit_sublist _) h
  | resets e rest r _ => exact List.Nodup.sublist (transmit_sublist _) h

/-! ## The free transmitter -/

/-- After the transmitter's choice a free transmitter has nothing to send (R151). -/
theorem chooseFrame_leaves_nothing (s : State) : (chooseFrame s).FreeHasNothingToSend :=
  fun _ free => (chooseFrame_sends s).resolve_left (fun h => h free)

theorem transmit_leaves_nothing (s : State) : (transmit s).FreeHasNothingToSend := by
  unfold transmit; split
  · next h => intro _ free; rw [free] at h; cases h
  · exact chooseFrame_leaves_nothing s

/-- What acts leave of the host link, the notice queue aside. -/
structure SameLink (s t : State) : Prop where
  receiver : t.receiver = s.receiver
  recvList : t.recvList = s.recvList
  replySlot : t.replySlot = s.replySlot
  sending : t.sending = s.sending
  resetting : t.resetting = s.resetting
  inReset : t.inReset = s.inReset

theorem Act.sameLink (a : Act c s t) : SameLink s t := by
  cases a with
  | flag src flag => constructor <;> simp
  | mask src enable => unfold maskSource; dsimp only; split <;> constructor <;> simp
  | clear src flags => unfold clearSource; constructor <;> simp
  | _ => constructor <;> rfl

theorem Acts.sameLink (h : Acts c s t) : SameLink s t :=
  h.keeps (P := SameLink s)
    (fun _ _ a k =>
      have e := a.sameLink
      ⟨e.receiver.trans k.receiver, e.recvList.trans k.recvList, e.replySlot.trans k.replySlot,
        e.sending.trans k.sending, e.resetting.trans k.resetting, e.inReset.trans k.inReset⟩)
    ⟨rfl, rfl, rfl, rfl, rfl, rfl⟩

theorem Deed.keeps_nothingToSend (d : Deed c s t) (h : s.FreeHasNothingToSend) : t.FreeHasNothingToSend := by
  cases d with
  | acts u hu hq =>
    have e := hu.sameLink
    unfold State.FreeHasNothingToSend
    rw [e.inReset, e.sending, e.replySlot, e.resetting, hq]
    exact h
  | chooses => exact chooseFrame_leaves_nothing s
  | byte b => rw [receiveByte_eq]; exact h
  | gap => exact h
  | sends | answers | note | resets => exact transmit_leaves_nothing _

/-! ## The receive list -/

@[simp] theorem noteCount_cons_note (tag : Byte) (code : NoteCode) (l : List Entry) :
    noteCount (.note tag code :: l) = noteCount l + 1 := by simp [noteCount]
@[simp] theorem noteCount_cons_frame (f : Frame) (l : List Entry) : noteCount (.frame f :: l) = noteCount l := by
  simp [noteCount]
@[simp] theorem frameCount_cons_note (tag : Byte) (code : NoteCode) (l : List Entry) :
    frameCount (.note tag code :: l) = frameCount l := by simp [frameCount]
@[simp] theorem frameCount_cons_frame (f : Frame) (l : List Entry) :
    frameCount (.frame f :: l) = frameCount l + 1 := by simp [frameCount]
@[simp] theorem noteCount_append (l m : List Entry) : noteCount (l ++ m) = noteCount l + noteCount m :=
  List.countP_append
@[simp] theorem frameCount_append (l m : List Entry) : frameCount (l ++ m) = frameCount l + frameCount m :=
  List.countP_append
@[simp] theorem noteCount_nil : noteCount [] = 0 := rfl
@[simp] theorem frameCount_nil : frameCount [] = 0 := rfl

/-- A receiver that is not DEAF finds at most three notes. -/
theorem State.ListBounded.notes_lt (h : s.ListBounded) (hr : s.receiver ≠ .deaf) : noteCount s.recvList < 4 := by
  obtain ⟨_, notes, deaf⟩ := h
  have : noteCount s.recvList ≠ 4 := fun e => hr (deaf e)
  omega

/-- The entry of a whole frame joins the list; it is a frame entry only where there is room (R158). -/
theorem appendEntry_bounded {len : Nat} {held : List Byte} (h : s.ListBounded) (hr : s.receiver ≠ .deaf) :
    (appendEntry (entryOf s len held) (s.setReceiver .hunting)).ListBounded := by
  have notes := h.notes_lt hr
  obtain ⟨frames, _, _⟩ := h
  have append : ∀ e : Entry, frameCount (s.recvList ++ [e]) ≤ 4 → noteCount (s.recvList ++ [e]) ≤ 4 →
      (appendEntry e (s.setReceiver .hunting)).ListBounded := by
    intro e hf hn
    refine ⟨hf, hn, fun four => ?_⟩
    have four : noteCount (s.recvList ++ [e]) = 4 := four
    simp [appendEntry, four, Config.listDepth]
  unfold entryOf; dsimp only
  split
  · exact append _ (by simpa using frames) (by simp; omega)
  · split
    · next room => exact append _ (by simp [Config.listDepth] at room ⊢; omega) (by simp; omega)
    · exact append _ (by simpa using frames) (by simp; omega)

theorem receiveByte_bounded {b : Byte} (h : s.ListBounded) : (receiveByte s b).ListBounded := by
  have listens : ∀ r : Receiver, s.receiver ≠ .deaf → (s.setReceiver r).ListBounded := by
    intro r hr
    have := h.notes_lt hr
    exact ⟨h.1, h.2.1, fun e => absurd e (by simp; omega)⟩
  unfold receiveByte
  split
  · exact h
  · next hr => split
               · exact listens _ (by simp [hr])
               · exact h
  · next hr => exact listens _ (by simp [hr])
  · next hr => exact listens _ (by simp [hr])
  · next hr =>
    dsimp only; split
    · exact listens _ (by simp [hr])
    · exact appendEntry_bounded h (by simp [hr])

/-- The list without its head, the receiver as it was. -/
theorem State.ListBounded.tail {e : Entry} {rest : List Entry} (h : s.ListBounded) (hl : s.recvList = e :: rest) :
    (s.setList rest).ListBounded := by
  obtain ⟨frames, notes, deaf⟩ := h
  rw [hl] at frames notes deaf
  cases e with
  | frame f =>
    rw [frameCount_cons_frame] at frames
    rw [noteCount_cons_frame] at notes deaf
    exact ⟨(show frameCount rest ≤ 4 by omega), notes, deaf⟩
  | note tag code =>
    rw [frameCount_cons_note] at frames
    rw [noteCount_cons_note] at notes
    exact ⟨frames, (show noteCount rest ≤ 4 by omega), fun e => absurd e (show noteCount rest ≠ 4 by omega)⟩

theorem State.ListBounded.of_eq (h : s.ListBounded) (hl : t.recvList = s.recvList) (hr : t.receiver = s.receiver) :
    t.ListBounded := by
  unfold State.ListBounded; rw [hl, hr]; exact h

theorem Acts.keeps_listBounded (hu : Acts c s t) (h : s.ListBounded) : t.ListBounded :=
  h.of_eq hu.sameLink.recvList hu.sameLink.receiver

theorem transmit_bounded (h : s.ListBounded) : (transmit s).ListBounded :=
  h.of_eq (transmit_recvList s) (transmit_receiver s)

theorem Deed.keeps_listBounded (d : Deed c s t) (h : s.ListBounded) : t.ListBounded := by
  cases d with
  | acts u hu _ => exact hu.keeps_listBounded h
  | sends u hu => exact transmit_bounded (hu.keeps_listBounded h)
  | chooses => rw [chooseFrame_eq]; exact h
  | byte b => exact receiveByte_bounded h
  | gap =>
    refine ⟨h.1, h.2.1, fun four => ?_⟩
    have deaf := h.2.2 four
    simp [dropPartialFrame, deaf]
  | answers u e rest r hl hu =>
    have bounded : u.ListBounded := hu.keeps_listBounded (h.tail hl)
    exact transmit_bounded (bounded.of_eq rfl rfl)
  | note tag code rest r x hl =>
    obtain ⟨frames, notes, _⟩ := h
    rw [hl, frameCount_cons_note] at frames
    rw [hl, noteCount_cons_note] at notes
    exact transmit_bounded ⟨frames, (show noteCount rest ≤ 4 by omega),
      fun e => absurd e (show noteCount rest ≠ 4 by omega)⟩
  | resets e rest r hl =>
    obtain ⟨frames, notes, _⟩ := h.tail hl
    exact transmit_bounded ⟨frames, notes, fun _ => rfl⟩

/-! ## Slots and members -/

theorem maskSource_slots (src : Source) (enable : FlagSet) (s : State) : (maskSource src enable s).slots = s.slots := by
  unfold maskSource; dsimp only; split <;> simp

theorem maskSource_members (src : Source) (enable : FlagSet) (s : State) :
    (maskSource src enable s).members = s.members := by
  unfold maskSource; dsimp only; split <;> simp

theorem clearSource_slots (src : Source) (flags : FlagSet) (s : State) : (clearSource src flags s).slots = s.slots := by
  simp [clearSource]

theorem clearSource_members (src : Source) (flags : FlagSet) (s : State) :
    (clearSource src flags s).members = s.members := by simp [clearSource]

/-- A condition on the slots alone is kept by every act if the acts on slots keep it. -/
theorem Act.keeps_slots {Q : Vector Slot 2 → Prop} (a : Act c s t)
    (slots : ∀ u v : Vector Slot 2, (∀ i : Fin 2, (v[i].strip = u[i].strip ∨ v[i].strip = none) ∧
      (v[i].samples = u[i].samples ∨ v[i].samples = [])) → Q u → Q v)
    (row : ∀ (u : Vector Slot 2) (k n : Nat) (row : List Nat), (∀ m ∈ row, m ≤ 40000) → Q u →
      Q (u.set (slotOf k) (u[slotOf k].takeRow k n row))) (h : Q s.slots) : Q t.slots := by
  cases a with
  | slots v hv => exact slots _ v hv h
  | row k n r hr => exact row _ k n r hr h
  | flag => rwa [setFlag_slots]
  | mask => rwa [maskSource_slots]
  | clear => rwa [clearSource_slots]
  | _ => exact h

/-- A slot of a table with one slot replaced is the new one or the old one at its place. -/
theorem slots_set_cases (u : Vector Slot 2) (i j : Fin 2) (slot : Slot) :
    (i = j ∧ (u.set i slot)[j] = slot) ∨ (u.set i slot)[j] = u[j] := by
  by_cases h : i = j
  · subst h; exact .inl ⟨rfl, by simp⟩
  · have hv : (i : Nat) ≠ (j : Nat) := fun e => h (Fin.ext e)
    exact .inr (by simp [hv])

theorem Act.keeps_slotsPlaced (a : Act c s t) : s.SlotsPlaced → t.SlotsPlaced := by
  refine a.keeps_slots (Q := fun v => ∀ (i : Fin 2) (k : Nat), v[i].strip = some k → k % 2 = i.val)
    (fun u v hv h i k hk => ?_) (fun u j n row _ h i k hk => ?_)
  · obtain e | e := (hv i).1
    · exact h i k (e.symm.trans hk)
    · cases e.symm.trans hk
  · obtain ⟨rfl, e⟩ | e := slots_set_cases u (slotOf j) i (u[slotOf j].takeRow j n row)
    · rw [e] at hk; cases hk; rfl
    · rw [e] at hk; exact h i k hk

theorem Act.keeps_samplesClamped (a : Act c s t) : s.SamplesClamped → t.SamplesClamped := by
  refine a.keeps_slots (Q := fun v => ∀ (i : Fin 2), ∀ row ∈ v[i].samples, ∀ m ∈ row, m ≤ 40000)
    (fun u v hv h i => ?_) (fun u j n row hrow h i r hr => ?_)
  · obtain e | e := (hv i).2 <;> rw [e]
    · exact h i
    · simp
  · obtain ⟨rfl, e⟩ | e := slots_set_cases u (slotOf j) i (u[slotOf j].takeRow j n row) <;> rw [e] at hr
    · obtain old | rfl : r ∈ u[slotOf j].samples ∨ r = row := by simpa [Slot.takeRow] using hr
      · exact h _ r old
      · exact hrow
    · exact h i r hr

theorem Act.keeps_membersOnce (a : Act c s t) (h : s.MembersOnce) : t.MembersOnce := by
  cases a with
  | members m hm => exact hm h
  | flag => unfold State.MembersOnce; rwa [setFlag_members]
  | mask => unfold State.MembersOnce; rwa [maskSource_members]
  | clear => unfold State.MembersOnce; rwa [clearSource_members]
  | _ => exact h

/-! ## Resets -/

/-- After a reset both slots are EMPTY, the participation set and the receive list are empty, and no source is queued
twice. -/
theorem AfterReset.lists (h : AfterReset t) :
    t.slots = Vector.replicate 2 Slot.cleared ∧ t.members = [] ∧ t.recvList = [] ∧ t.QueueOnce := by
  obtain ⟨s, rfl⟩ | ⟨straps, stop, s, rfl⟩ := h
  · exact ⟨rfl, rfl, rfl, List.nodup_nil⟩
  · unfold State.QueueOnce
    rw [transmit_slots, transmit_members, transmit_recvList]
    unfold completeReset; dsimp only
    split
    · rw [setFlag_slots, setFlag_members, setFlag_recvList]
      exact ⟨rfl, rfl, rfl, (setFlag_nodup List.nodup_nil).sublist (transmit_sublist _)⟩
    · exact ⟨rfl, rfl, rfl, List.Nodup.sublist (transmit_sublist _) List.nodup_nil⟩

theorem AfterReset.listBounded (h : AfterReset t) : t.ListBounded := by
  obtain ⟨_, _, list, _⟩ := h.lists
  unfold State.ListBounded
  rw [list]
  exact ⟨by decide, by decide, fun e => absurd e (by decide)⟩

theorem AfterReset.nothingToSend (h : AfterReset t) : t.FreeHasNothingToSend := by
  obtain ⟨s, rfl⟩ | ⟨straps, stop, s, rfl⟩ := h
  · intro e; cases e
  · exact transmit_leaves_nothing _

/-- Both slots EMPTY hold no strip and no sample. -/
theorem cleared_slots {v : Vector Slot 2} (h : v = Vector.replicate 2 Slot.cleared) (i : Fin 2) :
    v[i].strip = none ∧ v[i].samples = [] := by
  subst h; simp [Slot.cleared]

end

/-! ## The statements on lists, slots and members -/

/-- What deeds keep and a reset makes true, and neither the stop line, the tick nor the waiting commands bear on, every
step keeps. -/
theorem step_keeps_link {P : State → Prop} (deed : ∀ c s t, Deed c s t → P s → P t)
    (reset : ∀ t, AfterReset t → P t) (line : ∀ s b, P s → P (s.setStopLine b))
    (queue : ∀ s q, P s → P (s.setPending q)) (tick : ∀ s, P s → P (tickBoundary s)) {s t : State}
    (h : step s = .next t) (hs : P s) : P t := by
  obtain rfl | ⟨c, rest, _, h⟩ := step_cases h
  · exact tick s hs
  obtain d | ⟨_, r⟩ | l := exec_cases h
  · exact d.keeps (deed c) (queue s rest hs)
  · exact reset t r
  · cases l with
    | asserted _ u hu ht _ => rw [ht]; exact deed c _ _ (.sends _ u hu) (line _ _ (queue s rest hs))
    | released _ u hu ht _ => rw [ht]; exact deed c _ _ (.sends _ u hu) (line _ _ (queue s rest hs))

/-- Settles O54: each condition is kept by every deed and made true by a reset. -/
theorem listsAndQueuesStayBounded : Obligations.ListsAndQueuesStayBounded := by
  intro s t h
  refine ⟨?_, ?_, ?_, ?_⟩
  · exact step_keeps_link (fun _ _ _ => Deed.keeps_listBounded) (fun _ r => r.listBounded)
      (fun _ _ h => h) (fun _ _ h => h) (fun _ h => h) h
  · exact step_keeps_link (fun _ _ _ => Deed.keeps_queueOnce) (fun _ r => r.lists.2.2.2)
      (fun _ _ h => h) (fun _ _ h => h) (fun _ h => h) h
  · exact step_keeps_views (P := fun v => v.queue.length ≤ 16) (fun _ _ _ _ m => m.keeps_queue)
      (by decide) (by decide) h
  · exact step_keeps_link (fun _ _ _ => Deed.keeps_nothingToSend) (fun _ r => r.nothingToSend)
      (fun _ _ h => h) (fun _ _ h => h) (fun _ h => h) h

/-- Settles O58: each condition is kept by every act and made true by a reset. -/
theorem slotsAndMembersKeepTheirForm : Obligations.SlotsAndMembersKeepTheirForm := by
  intro s t h
  refine ⟨?_, ?_, ?_⟩
  · refine step_keeps (fun s t e hs i k hk => hs i k (by rwa [← e.slots])) (fun _ _ h => h)
      (fun _ _ _ => Act.keeps_slotsPlaced) (fun t r i k hk => ?_) h
    cases (cleared_slots r.lists.1 i).1.symm.trans hk
  · refine step_keeps (fun s t e hs => by unfold State.SamplesClamped; rwa [e.slots]) (fun _ _ h => h)
      (fun _ _ _ => Act.keeps_samplesClamped) (fun t r i => ?_) h
    rw [(cleared_slots r.lists.1 i).2]; simp
  · refine step_keeps (fun s t e hs => by unfold State.MembersOnce; rwa [e.members]) (fun _ _ h => h)
      (fun _ _ _ => Act.keeps_membersOnce) (fun t r => ?_) h
    unfold State.MembersOnce
    rw [r.lists.2.1]; rfl

/-- Settles O60: a drive event and a timer change their own station alone, whatever the transmitter then chooses. -/
theorem driveEventTouchesOneStation : Obligations.DriveEventTouchesOneStation := by
  intro s t c p q h hpq hc
  have other : q ≠ p := Ne.symm hpq
  have reset : ∀ {effect : State → State}, (effect s).st q = s.st q → (outOfReset effect s).st q = s.st q := by
    intro effect he; unfold outOfReset; split
    · rfl
    · exact he
  have expiry : ∀ {timer : Option Nat} {effect : State → State}, (effect s).st q = s.st q →
      (atExpiry timer effect s).st q = s.st q := by
    intro timer effect he
    obtain e | ⟨_, _, _, _, e⟩ := atExpiry_cases timer effect s <;> rw [e]
    exact he
  have own : ∀ (f : Station → Station), (s.modSt p f).st q = s.st q := fun f => State.modSt_st_ne s f hpq
  obtain ⟨load, valid, rfl⟩ | ⟨number, length, rfl⟩ | ⟨bytes, rfl⟩ | hc := hc
  · cases h
    refine reset ?_
    unfold markWord; dsimp only; split
    · rw [(takeMark_sends p _ _).others q other, own]
    · exact own _
  · cases h
    exact reset (((takeDressed_sends p _ _ _).others q other).trans (own _))
  · cases h
    refine reset ?_
    have fold : ∀ (bytes : List Byte) (u : State), (bytes.foldl (receiveDriveByte p) u).st q = u.st q := by
      intro bytes
      induction bytes with
      | nil => exact fun _ => rfl
      | cons b bytes ih => exact fun u => (ih _).trans ((receiveDriveByte_sends p u b).others q other)
    exact fold bytes s
  · simp only [List.mem_cons, List.not_mem_nil, or_false] at hc
    have cutting : ∀ {effect : State → State}, (effect s).st q = s.st q → (inCutting p effect s).st q = s.st q := by
      intro effect he; unfold inCutting; split
      · exact he
      · rfl
    have sends : ∀ {u : State}, TouchesOnly p s u → (transmit u).st q = s.st q := fun hu => hu.transmits.others q other
    obtain rfl | rfl | rfl | rfl | rfl | rfl | rfl | rfl := hc <;> cases h
    · exact reset (own _)
    · exact reset (own _)
    · exact cutting (expiry (sends (stallStation_touchesOnly p _ s)))
    · exact cutting (expiry ((leadExpires_touchesOnly p s).others q other))
    · exact cutting (expiry (own _))
    · exact cutting (expiry (sends (missExpires_touchesOnly p s)))
    · split
      · exact expiry ((startClosing_touchesOnly p s).others q other)
      · rfl
    · split
      · exact expiry (sends (stallStation_touchesOnly p _ s))
      · rfl

/-- Settles O53: after reset every list is empty, both slots are EMPTY and every station is as a reset leaves it. -/
theorem resetMeetsEveryCondition : Obligations.ResetMeetsEveryCondition := by
  have st : ∀ q, State.reset.st q = Station.reset := State.st_replicate rfl
  have slots : ∀ i : Fin 2, State.reset.slots[i].strip = none ∧ State.reset.slots[i].samples = [] :=
    cleared_slots rfl
  refine ⟨⟨by decide, by decide, fun e => absurd e (by decide)⟩, List.nodup_nil, fun q => ?_, fun q => ?_, fun q => ?_,
    fun q cfg hc => ?_, fun e => absurd e (by decide), fun q => ?_, fun i k hk => ?_, fun i => ?_, rfl,
    fun _ _ => ⟨rfl, fun _ => rfl⟩, fun q => ?_⟩
  · rw [st]; decide
  · rw [st]; exact ⟨by decide, by decide⟩
  · rw [st]; decide
  · rw [st] at hc; cases hc
  · rw [st]; exact ⟨by decide, fun k => absurd k (by decide)⟩
  · cases (slots i).1.symm.trans hk
  · rw [(slots i).2]; simp
  · rw [st]
    exact ⟨by decide, by decide, by decide, by decide, by decide, by decide, by decide, fun _ k => by cases k⟩

end Sys2Proof.Machine
end

section
/-! The arithmetic of depths, loads and dressings, windows, flags and command queues. -/

namespace Sys2Proof.Machine

/-! ## Depth -/

section
variable {c : StationConfig} {m t tp beff wear d : Nat} {guarded : Bool} {phase : Phase}

/-- No cell is cut to a phase target of 0 (R42). -/
theorem isCut_zero : isCut guarded 0 beff d = false := by simp [isCut]

theorem phaseTarget_le : phaseTarget c phase t ≤ t := by
  cases phase with
  | rough => unfold phaseTarget; dsimp only; split <;> omega
  | finish => exact le_rfl

theorem phaseTarget_zero : phaseTarget c phase 0 = 0 := Nat.le_zero.mp phaseTarget_le

theorem phaseTarget_rough_of_le (h : t ≤ c.allowance) : phaseTarget c .rough t = 0 := if_pos h

theorem phaseTarget_rough_of_lt (h : c.allowance < t) : phaseTarget c .rough t = t - c.allowance :=
  if_neg (by omega)

/-- The target by the sum of the scaled target and the offset (R35). -/
theorem target_of_neg (h : offsetTarget c m < 0) : target c m = 0 := if_pos h

theorem clampedAbove_iff : clampedAbove c m = true ↔ (c.depthLimit : Int) < offsetTarget c m := by
  simp [clampedAbove]

theorem target_of_above (h : (c.depthLimit : Int) < offsetTarget c m) (h0 : 0 ≤ offsetTarget c m) :
    target c m = c.depthLimit := by
  unfold target
  rw [if_neg (by omega), if_pos (clampedAbove_iff.mpr h)]

theorem target_of_within (h0 : 0 ≤ offsetTarget c m) (h : offsetTarget c m ≤ c.depthLimit) :
    (target c m : Int) = offsetTarget c m := by
  unfold target
  rw [if_neg (by omega), if_neg (by rw [clampedAbove_iff]; omega)]
  exact Int.toNat_of_nonneg h0

theorem target_le : target c m ≤ c.depthLimit := by
  obtain h | h := lt_or_ge (offsetTarget c m) 0
  · rw [target_of_neg h]; exact Nat.zero_le _
  · obtain k | k := lt_or_ge (c.depthLimit : Int) (offsetTarget c m)
    · rw [target_of_above k h]
    · have := target_of_within h k; omega

/-- Settles O30: the three ranges of the sum, each by its equation of the target. -/
theorem targetStaysWithinLimit : Obligations.TargetStaysWithinLimit := by
  intro c m
  refine ⟨target_le, target_of_neg, target_of_above, target_of_within, clampedAbove_iff,
    fun guarded phase beff d h => ?_⟩
  rw [h, phaseTarget_zero]; exact isCut_zero

theorem buildPlan_cells (s : State) (x : Station) (w : Work) :
    (buildPlan s x w).cells = (List.range (s.rowsOf x.strip)).map (planEntry s x w) := rfl

/-- Settles O31: the phase target's cases, and the plan's entries in order of its cells. -/
theorem phaseTargetByPhase : Obligations.PhaseTargetByPhase := by
  intro c t
  refine ⟨phaseTarget_rough_of_lt, phaseTarget_rough_of_le, rfl, fun _ => phaseTarget_le, fun guarded beff d h => ?_,
    fun s x w => ⟨rfl, fun j hj => ?_⟩⟩
  · rw [phaseTarget_rough_of_le h]; exact isCut_zero
  · simp [buildPlan_cells, hj]

/-- A cell that is cut goes to the lesser of its phase target and one bite more (R42). -/
theorem cellPlan_depth_of_cut (h : (cellPlan guarded tp beff wear d).cut = true) :
    (cellPlan guarded tp beff wear d).depth = min tp (d + beff) := if_pos h

/-- Settles O32: what a cut cell gains is bounded by its target and the bite. -/
theorem plannedDepthWithinBite : Obligations.PlannedDepthWithinBite := by
  intro guarded tp beff wear d
  refine ⟨cellPlan_cut_iff, fun cut => ?_, fun uncut => cellPlan_depth_of_not_cut (by simp [uncut]), rfl, rfl⟩
  have deeper := (cellPlan_cut_iff.mp cut).2
  have depth := cellPlan_depth_of_cut cut
  refine ⟨by omega, by omega, by omega, fun less => ⟨by omega, ?_⟩⟩
  exact cellPlan_not_short_iff.mpr (.inr (by omega))

/-- An unprotected cell not deeper than its target goes to the lesser of the target and one bite more (R42, R43). -/
theorem cellPlan_depth_of_le (h : d ≤ tp) : (cellPlan false tp beff wear d).depth = min tp (d + beff) := by
  by_cases cut : (cellPlan false tp beff wear d).cut = true
  · exact cellPlan_depth_of_cut cut
  · rw [cellPlan_depth_of_not_cut cut]
    have : ¬ d < min tp (d + beff) := fun k => cut (cellPlan_cut_iff.mpr ⟨rfl, k⟩)
    omega

/-- Settles O34: after n passes the depth is the lesser of the target and n bites, by induction on the passes. -/
theorem passesDeepenByOneBite : Obligations.PassesDeepenByOneBite := by
  intro tp beff wear n hb pass
  have depth : pass^[n] 0 = min tp (n * beff) := by
    induction n with
    | zero => simp
    | succ n ih =>
      rw [Function.iterate_succ_apply', ih]
      show (cellPlan false tp beff wear (min tp (n * beff))).depth = _
      rw [cellPlan_depth_of_le (Nat.min_le_left _ _), Nat.succ_mul]
      omega
  refine ⟨depth, ?_⟩
  rw [depth, Nat.div_le_iff_le_mul_add_pred hb, Nat.mul_comm beff n]
  omega

end

/-! ## Load -/

theorem expectedLoad_le (hardness bite : Nat) : expectedLoad hardness bite ≤ 1023 := Nat.min_le_left _ _

/-- Settles O43: the product's range, and the residual as a difference of two numbers up to 1023. -/
theorem residualOfALoad : Obligations.ResidualOfALoad := by
  intro hardness bite load hk hb hl
  have product : hardness * bite ≤ 255000 := Nat.mul_le_mul hk hb
  have bound := expectedLoad_le hardness bite
  refine ⟨rfl, product, by omega, bound, rfl, ?_, ?_, ?_, fun h => ?_, fun h => ?_⟩
  · unfold residual; omega
  · unfold residual; omega
  · unfold residual; omega
  · simp [residual, expectedLoad, h]
  · have : expectedLoad hardness bite = 1023 := Nat.min_eq_left h
    unfold residual; omega

/-! ## Dressing -/

theorem countCut_below {r : DressRecord} (h : r.due + 1 < r.threshold) : r.countCut = { r with due := r.due + 1 } :=
  if_neg (by omega)

theorem countCut_reached {r : DressRecord} (h : r.threshold ≤ r.due + 1) :
    r.countCut = { r with due := 0, owed := satUp r.owed } := if_pos h

/-- Settles O47: the two cases of the count, and the gauge by the reference and the worn flag. -/
theorem cutCountsAndGaugeResults : Obligations.CutCountsAndGaugeResults := by
  refine ⟨fun r => ⟨countCut_below, countCut_reached⟩, fun r kind len => ⟨fun h => ?_, fun ref h hw => ?_,
    fun ref h hw hk => ?_, ?_, rfl⟩⟩
  · simp [DressRecord.takeGauge, h]
  · simp [DressRecord.takeGauge, h, hw]
  · simp [DressRecord.takeGauge, h, hw, hk]
  · have flag : ∀ r1 : DressRecord, r1.worn = r.worn →
        ((r1.worn || decide (Config.wearMax < r1.wear)) = true ↔ r.worn = true ∨ 300 < r1.wear) := by
      intro r1 h; rw [Bool.or_eq_true, decide_eq_true_eq, h]; rfl
    unfold DressRecord.takeGauge; dsimp only
    split
    · exact flag _ rfl
    · split
      · exact flag _ rfl
      · cases kind with
        | closing => exact flag _ rfl
        | owed _ => exact flag _ rfl

/-! ## Flags -/

section
variable {s : State} {src : Source} {flag : FlagSet}

/-- A flag that is pending: no change (R149). -/
theorem setFlag_of_pending (h : (s.noticeSets src).pending &&& flag ≠ 0) : setFlag src flag s = s := if_pos h

/-- A flag that is not enabled becomes pending alone (R149). -/
theorem setFlag_of_disabled (hp : (s.noticeSets src).pending &&& flag = 0)
    (he : (s.noticeSets src).enabled &&& flag = 0) :
    setFlag src flag s =
      s.setNoticeSets src { s.noticeSets src with pending := (s.noticeSets src).pending ||| flag } := by
  unfold setFlag; dsimp only
  rw [if_neg (by simp [hp]), if_neg (by simp [he])]

/-- A flag that is enabled becomes pending, and its source is queued (R149). -/
theorem setFlag_of_enabled (hp : (s.noticeSets src).pending &&& flag = 0)
    (he : (s.noticeSets src).enabled &&& flag ≠ 0) :
    setFlag src flag s =
      (s.setNoticeSets src
        { s.noticeSets src with pending := (s.noticeSets src).pending ||| flag }).queueSource src := by
  unfold setFlag; dsimp only
  rw [if_neg (by simp [hp]), if_pos he]

theorem queueSource_of_mem (h : src ∈ s.noticeQueue) : s.queueSource src = s := if_pos h

theorem queueSource_of_not_mem (h : src ∉ s.noticeQueue) : s.queueSource src = s.setQueue (s.noticeQueue ++ [src]) :=
  if_neg h

end

/-- One flag of a set is pending or enabled when its bit stands (R149). -/
theorem and_bit_eq_zero (x : FlagSet) (bit : Fin 16) : x &&& 1#16 <<< bit.val = 0 ↔ x.getLsbD bit.val = false := by
  rw [← BitVec.twoPow_eq, BitVec.and_twoPow]
  split
  · next h =>
    refine iff_of_false (fun e => ?_) (by simp [h])
    simpa using congrArg (BitVec.getLsbD · bit.val) e
  · next h => simpa using h

/-- Settles O49: the four cases of the table by the two bits and the queue. -/
theorem flagSetQueuesSourceOnce : Obligations.FlagSetQueuesSourceOnce := by
  intro s src bit flag n set
  have clear : ∀ x : FlagSet, x.getLsbD bit.val = false → x &&& flag = 0 := fun x => (and_bit_eq_zero x bit).mpr
  have stands : ∀ x : FlagSet, x.getLsbD bit.val = true → x &&& flag ≠ 0 :=
    fun x h e => by rw [(and_bit_eq_zero x bit).mp e] at h; cases h
  have same : set.noticeQueue = s.noticeQueue := State.setNoticeSets_noticeQueue s src _
  refine ⟨fun pending => setFlag_of_pending (stands _ pending),
    fun pending enabled => setFlag_of_disabled (clear _ pending) (clear _ enabled),
    fun pending enabled queued => ?_, fun pending enabled queued => ?_⟩
  · exact (setFlag_of_enabled (clear _ pending) (stands _ enabled)).trans (queueSource_of_mem (by rwa [same]))
  · rw [setFlag_of_enabled (clear _ pending) (stands _ enabled), ← same]
    exact queueSource_of_not_mem (by rwa [same])

/-! ## Command queues -/

theorem stops_eq (d : DriveCmd) : d.stops = decide (d = .lift ∨ d = .spinOff) := by cases d <;> rfl

/-- The removal before LIFT and SPIN OFF leaves the word being sent (R166). -/
theorem purgeQueue_cons (sent : DriveCmd) (unsent : List DriveCmd) :
    purgeQueue (sent :: unsent) = sent :: unsent.filter (fun d => decide (d = .lift ∨ d = .spinOff)) := by
  rw [purgeQueue, show DriveCmd.stops = fun d => decide (d = .lift ∨ d = .spinOff) from funext stops_eq]

/-- Settles O51: the branches of `enqueueCmd` by the lengths and the command. -/
theorem fullQueueTakesOnlyStops : Obligations.FullQueueTakesOnlyStops := by
  intro q c
  refine ⟨fun room => if_pos room, fun full hl hs => ?_, ?_⟩
  · have still : c.stops = false := by rw [stops_eq]; simp [hl, hs]
    unfold enqueueCmd
    rw [if_neg (by simp [Config.queueDepth]; omega), if_pos (by simp [still])]
  · intro sent unsent hq full hc left
    subst hq
    have stops : c.stops = true := by rw [stops_eq]; simpa using hc
    have enqueue : enqueueCmd c (sent :: unsent) =
        if left.length + 1 < 16 then sent :: left ++ [c]
        else if c ∈ left then sent :: left else sent :: left.tail ++ [c] := by
      unfold enqueueCmd
      rw [if_neg (by simp [Config.queueDepth] at full ⊢; omega), if_neg (by simp [stops]), purgeQueue_cons]
      simp only [Config.queueDepth, List.length_cons, List.tail_cons, List.take_succ_cons, List.take_zero,
        List.drop_succ_cons, List.drop_one, List.singleton_append]
      rfl
    rw [enqueue]
    refine ⟨fun room => if_pos (by omega), fun none mem => ?_, fun none mem => ?_⟩
    · rw [if_neg (by omega), if_pos mem]
    · rw [if_neg (by omega), if_neg mem]

/-! ## Windows -/

/-- The multiples of a side that a number lies between (R64). -/
theorem div_eq_base_iff {n base side : Nat} (hs : 0 < side) (h : side ∣ base) :
    n / side = base / side ↔ base ≤ n ∧ n < base + side := by
  obtain ⟨k, rfl⟩ := h
  rw [Nat.mul_div_cancel_left k hs, Nat.div_eq_iff hs]
  rw [Nat.mul_comm k side]; omega

/-- Settles O15: a rectangle is two intervals of aligned numbers, and a table is guarded by any of its slots. -/
theorem alignedWindowProtectsItsCells : Obligations.AlignedWindowProtectsItsCells := by
  refine ⟨fun w row col hr hc => ?_, fun s row col => ?_⟩
  · unfold Window.protects
    rw [Bool.and_eq_true, decide_eq_true_eq, decide_eq_true_eq, div_eq_base_iff (Nat.two_pow_pos _) hr,
      div_eq_base_iff (Nat.two_pow_pos _) hc, and_assoc]
  · unfold State.guarded
    rw [List.any_eq_true]
    constructor
    · rintro ⟨o, mem, hp⟩
      cases o with
      | none => cases hp
      | some w =>
        obtain ⟨i, hi, e⟩ := List.getElem_of_mem mem
        exact ⟨⟨i, by simpa using hi⟩, w, by simpa using e, hp⟩
    · rintro ⟨n, w, e, hp⟩
      exact ⟨some w, by rw [← e]; exact Vector.mem_toList_iff.mpr (Vector.getElem_mem n.isLt), hp⟩

/-! ## Released slots -/

theorem mem_joinSet {p q : StationId} {set : List StationId} : q ∈ joinSet p set ↔ q = p ∨ q ∈ set := by
  simp [joinSet, mem_allStations]

theorem releasable_iff (s : State) (i : Fin 2) : s.releasable i = true ↔
    s.setup = .active ∧ s.slots[i].state = .full ∧ s.members ≠ [] ∧ ∀ q ∈ s.members, q ∈ s.slots[i].finished := by
  simp [State.releasable, and_assoc]

theorem releaseTest_of_releasable {s : State} {i : Fin 2} (h : s.releasable i = true) :
    releaseTest i s = releaseSlot i s := if_pos h

theorem releaseTest_of_not {s : State} {i : Fin 2} (h : ¬ s.releasable i = true) : releaseTest i s = s := if_neg h

/-- Settles O18: the release test of the slot with the station in its finished set. -/
theorem slotReleasedWhenAllHaveFinished : Obligations.SlotReleasedWhenAllHaveFinished := by
  intro s p k i slot
  have test : (s.setSlots (s.slots.set i { slot with finished := joinSet p slot.finished })).releasable i = true ↔
      s.setup = .active ∧ slot.state = .full ∧ s.members ≠ [] ∧ ∀ q ∈ s.members, q = p ∨ q ∈ slot.finished := by
    rw [releasable_iff]; simp [mem_joinSet]
  refine ⟨fun q => mem_joinSet, fun h => ?_, fun h => ?_⟩
  · refine (releaseTest_of_releasable (test.mpr h)).trans ?_
    simp only [releaseSlot, State.setSlots_setSlots, State.setSlots_slots, Vector.set_set]
    simp only [Fin.getElem_fin, Vector.getElem_set_self]
    rfl
  · exact releaseTest_of_not (fun k => h (test.mp k))

end Sys2Proof.Machine
end

section
/-! The host link: frames received whole, notes and requests answered, the transmitter, resets, the tick. -/

namespace Sys2Proof.Machine

/-! ## The queue of commands -/

/-- Settles O1: the step's second branch. -/
theorem stepTakesFrontCommand : Obligations.StepTakesFrontCommand := by
  intro s c rest h
  unfold step
  rw [h]

theorem mem_dueCmd {t : Nat} {timer : Option Nat} {c d : Instr} :
    d ∈ dueCmd t timer c ↔ d = c ∧ ∃ n, timer = some n ∧ n ≤ t := by
  cases timer with
  | none => simp [dueCmd]
  | some n => unfold dueCmd; dsimp only; split <;> simp [*]

/-- The expiries of a station due at a tick, timer by timer (R14). -/
theorem mem_dueAt {t : Nat} {x : Station} {p : StationId} {d : Instr} :
    d ∈ dueAt t x p ↔
      (d = .settleExpiry p ∧ ∃ n, x.timers.settle = some n ∧ n ≤ t) ∨
      (d = .dressTimeout p ∧ ∃ n, x.timers.dress = some n ∧ n ≤ t) ∨
      (d = .blankTimerExpiry p ∧ ∃ n, x.timers.blank = some n ∧ n ≤ t) ∨
      (d = .leadTimerExpiry p ∧ ∃ n, x.timers.lead = some n ∧ n ≤ t) ∨
      (d = .missTimeout p ∧ ∃ n, x.timers.miss = some n ∧ n ≤ t) ∨
      (d = .approachTimeout p ∧ ∃ n, x.timers.approach = some n ∧ n ≤ t) := by
  simp only [dueAt, List.mem_append, mem_dueCmd, or_assoc]

theorem mem_tickBoundary {s : State} {d : Instr} :
    d ∈ (tickBoundary s).pending ↔ ∃ p, d ∈ dueAt (s.tick + 1) (s.st p) p := by
  simp [tickBoundary, mem_allStations]

/-- Settles O2: the commands that wait after a tick are those of `dueAt`. -/
theorem emptyQueueStepIsOneTick : Obligations.EmptyQueueStepIsOneTick := by
  intro s h
  refine ⟨tickBoundary s, by unfold step; rw [h], rfl, fun p => ?_, fun c hc => ?_⟩
  · simp [mem_tickBoundary, mem_dueAt]
  · obtain ⟨p, hp⟩ := mem_tickBoundary.mp hc
    refine ⟨p, ?_⟩
    rw [mem_dueAt] at hp
    simp only [List.mem_cons, List.not_mem_nil, or_false]
    exact hp.imp And.left (Or.imp And.left (Or.imp And.left (Or.imp And.left (Or.imp And.left And.left))))

/-! ## Frames -/

section
variable {s : State}

theorem outOfReset_of_not {effect : State → State} (h : s.inReset = false) : outOfReset effect s = effect s :=
  if_neg (by simp [h])

theorem receiveByte_body {len : Nat} {held : List Byte} (b : Byte) (h : s.receiver = .body len held) :
    receiveByte s b =
      if held.length + 1 < len + 1 then s.setReceiver (.body len (held ++ [b]))
      else appendEntry (entryOf s len (held ++ [b])) (s.setReceiver .hunting) := by
  unfold receiveByte; rw [h]; simp

theorem receiveByte_second {lo : Byte} (b : Byte) (h : s.receiver = .length (some lo)) :
    receiveByte s b = s.setReceiver
      (if inRange 2 1032 (lo.toNat + 256 * b.toNat) then .body (lo.toNat + 256 * b.toNat) [] else .hunting) := by
  unfold receiveByte; rw [h]

/-- The bytes of a frame from BODY to its check byte (R156). -/
theorem receive_body (bytes : List Byte) : ∀ (s : State) (len : Nat) (held : List Byte), s.receiver = .body len held →
    held.length + bytes.length = len + 1 → bytes ≠ [] →
    bytes.foldl receiveByte s = appendEntry (entryOf s len (held ++ bytes)) (s.setReceiver .hunting) := by
  induction bytes with
  | nil => exact fun _ _ _ _ _ h => absurd rfl h
  | cons b bytes ih =>
    intro s len held hr hl _
    rw [List.foldl_cons, receiveByte_body b hr]
    rw [List.length_cons] at hl
    cases bytes with
    | nil => rw [if_neg (by simp at hl; omega)]; rfl
    | cons b' rest =>
      rw [if_pos (by simp at hl; omega), ih _ len (held ++ [b]) rfl (by simp at hl ⊢; omega) (by simp)]
      simp [entryOf]

/-- A whole frame of a good length, whatever its body (R156). -/
theorem receive_frame {len : Nat} {body : List Byte} (hr : s.receiver = .hunting) (h2 : 2 ≤ len) (h : len ≤ 1032)
    (hb : body.length = len + 1) :
    (0xA5 :: (halfBytes len ++ body)).foldl receiveByte s =
      appendEntry (entryOf s len body) (s.setReceiver .hunting) := by
  have start : receiveByte s 0xA5 = s.setReceiver (.length none) := by unfold receiveByte; rw [hr]; rfl
  have first : ∀ b : Byte, receiveByte (s.setReceiver (.length none)) b = s.setReceiver (.length (some b)) :=
    fun b => rfl
  have second : receiveByte (s.setReceiver (.length (some (byteOf (len % 256))))) (byteOf (len / 256)) =
      s.setReceiver (.body len []) := by
    rw [receiveByte_second _ rfl, half_toNat (by omega)]
    simp [inRange, h2, h]
  rw [halfBytes, List.cons_append, List.cons_append, List.nil_append, List.foldl_cons, List.foldl_cons,
    List.foldl_cons, start, first, second, receive_body body _ len [] rfl (by simpa using hb)
      (by rintro rfl; simp at hb)]
  rfl

/-- The bytes of a frame up to its check byte (R155). -/
theorem Frame.bytes_eq (f : Frame) : f.bytes =
    0xA5 :: (halfBytes (f.payload.length + 2) ++ (f.kind :: f.tag :: f.payload ++
      [crc8 (halfBytes (f.payload.length + 2) ++ (f.kind :: f.tag :: f.payload))])) := by
  simp [Frame.bytes]

/-- A frame with any check byte (R155). -/
theorem Frame.bytes_with_check (f : Frame) (check : Byte) : f.bytes.dropLast ++ [check] =
    0xA5 :: (halfBytes (f.payload.length + 2) ++ (f.kind :: f.tag :: f.payload ++ [check])) := by
  have : f.bytes = (0xA5 :: (halfBytes (f.payload.length + 2) ++ (f.kind :: f.tag :: f.payload))) ++
      [crc8 (halfBytes (f.payload.length + 2) ++ (f.kind :: f.tag :: f.payload))] := by simp [Frame.bytes]
  rw [this, List.dropLast_concat]; simp

/-- The check byte tells whether a frame is the one sent (R157). -/
theorem Frame.check_iff (f : Frame) (check : Byte) : f.bytes.dropLast ++ [check] = f.bytes ↔
    check = crc8 (halfBytes (f.payload.length + 2) ++ (f.kind :: f.tag :: f.payload)) := by
  rw [Frame.bytes_with_check]
  conv_lhs => rhs; rw [Frame.bytes_eq]
  simp

theorem entryOf_frame (s : State) (f : Frame) (check : Byte) :
    entryOf s (f.payload.length + 2) (f.kind :: f.tag :: f.payload ++ [check]) =
      if check ≠ crc8 (halfBytes (f.payload.length + 2) ++ (f.kind :: f.tag :: f.payload)) then .note f.tag .badCheck
      else if frameCount s.recvList < 4 then .frame f else .note f.tag .overrun := by
  unfold entryOf
  rw [List.dropLast_concat, List.getLast?_concat]
  simp only [ne_eq, Option.some.injEq]
  rfl

/-- A whole frame with any check byte, received by a hunting receiver (R156 to R158). -/
theorem exec_frame {f : Frame} {check : Byte} (hs : s.inReset = false) (hr : s.receiver = .hunting)
    (hp : f.payload.length ≤ 1030) :
    exec (.linkFrameReceived (f.bytes.dropLast ++ [check])) s = .next (appendEntry
      (entryOf s (f.payload.length + 2) (f.kind :: f.tag :: f.payload ++ [check])) (s.setReceiver .hunting)) := by
  have whole := receive_frame (len := f.payload.length + 2) (body := f.kind :: f.tag :: f.payload ++ [check]) hr
    (by omega) (by omega) (by simp)
  show Host.Outcome.next (outOfReset _ s) = _
  rw [outOfReset_of_not hs, Frame.bytes_with_check, whole]

/-- Settles O3: a good check byte and room for a frame entry. -/
theorem sentFrameIsReceivedWhole : Obligations.SentFrameIsReceivedWhole := by
  intro s f hs hr hp hf hn
  have good : f.bytes.dropLast ++ [crc8 (halfBytes (f.payload.length + 2) ++ (f.kind :: f.tag :: f.payload))] =
      f.bytes := (f.check_iff _).mpr rfl
  rw [← good, exec_frame hs hr hp, entryOf_frame, if_neg (by simp), if_pos hf]
  unfold appendEntry; dsimp only
  rw [if_pos (by simpa [Config.listDepth] using hn), State.setReceiver_receiver, ← hr]
  rfl

/-- A note joins the list; the fourth makes the receiver DEAF (R158). -/
theorem appendEntry_note {tag : Byte} {code : NoteCode} (hn : noteCount s.recvList < 4) :
    appendEntry (.note tag code) (s.setReceiver .hunting) =
      { s with
        recvList := s.recvList ++ [.note tag code]
        receiver := if noteCount s.recvList = 3 then .deaf else .hunting } := by
  unfold appendEntry; dsimp only
  by_cases three : noteCount s.recvList = 3
  · rw [if_neg (by simp [Config.listDepth, three]), if_pos three]; rfl
  · rw [if_pos (by simp [Config.listDepth]; omega), if_neg three]; rfl

/-- Settles O4: the entry is a note in both cases, and the fourth note makes the receiver DEAF. -/
theorem damagedOrExtraFrameBecomesNote : Obligations.DamagedOrExtraFrameBecomesNote := by
  intro s f check hs hr hp hn hbad
  have entry : entryOf s (f.payload.length + 2) (f.kind :: f.tag :: f.payload ++ [check]) =
      .note f.tag (if f.bytes.dropLast ++ [check] = f.bytes then .overrun else .badCheck) := by
    rw [entryOf_frame]
    by_cases good : check = crc8 (halfBytes (f.payload.length + 2) ++ (f.kind :: f.tag :: f.payload))
    · have same := (f.check_iff check).mpr good
      rw [if_neg (by simpa using good), if_pos same, if_neg]
      have := hbad.resolve_left (fun h => h same)
      omega
    · rw [if_pos good, if_neg (fun e => good ((f.check_iff check).mp e))]
  rw [exec_frame hs hr hp, entry, appendEntry_note hn]

/-- Settles O5: the gap by the receiver, and the second length byte. -/
theorem gapOrBadLengthReturnsToHunting : Obligations.GapOrBadLengthReturnsToHunting := by
  intro s hs
  have gap : ∀ c, c = .interByteGap ∨ c = .linkFramingError → exec c s = .next (dropPartialFrame s) := by
    rintro c (rfl | rfl) <;> exact congrArg _ (outOfReset_of_not hs)
  have hunts : s.receiver ≠ .deaf → dropPartialFrame s = s.setReceiver .hunting := by
    intro h; unfold dropPartialFrame; rw [if_neg h]
  have stays : s.receiver = .deaf → dropPartialFrame s = s := by
    intro h; unfold dropPartialFrame; rw [if_pos h, ← h]; rfl
  refine ⟨fun h => ?_, fun h => ?_, fun h => ⟨?_, ?_⟩, fun lo hi h => ?_⟩
  · rw [gap _ (.inl rfl), hunts h]
  · rw [gap _ (.inr rfl), hunts h]
  · rw [gap _ (.inl rfl), stays h]
  · rw [gap _ (.inr rfl), stays h]
  · show Host.Outcome.next (outOfReset _ s) = _
    rw [outOfReset_of_not hs, receiveByte_second hi h]
    simp only [inRange, Bool.and_eq_true, decide_eq_true_eq]
    rfl

/-! ## Answers -/

/-- The request that handles a kind handles no other (R163). -/
theorem kindOfRequest_of_requestOfKind {k : Byte} {c : Instr} (h : requestOfKind k = some c) :
    kindOfRequest c = some k := by
  unfold requestOfKind at h
  split at h <;> cases h
  all_goals exact congrArg some (BitVec.eq_of_toNat_eq (by simp [*]))

/-- The unknown kinds (R159). -/
theorem requestOfKind_unknown {k : Byte} (h : k.toNat = 0 ∨ 0x16 ≤ k.toNat) : requestOfKind k = none := by
  cases e : requestOfKind k with
  | none => rfl
  | some c =>
    have hk := kindOfRequest_of_requestOfKind e
    revert h
    cases c <;> cases hk <;> decide

/-- Settles O6: the head of the list is a note, a frame entry after a RESET, or a frame of an unknown kind. -/
theorem notesAndUnknownKindsAnswered : Obligations.NotesAndUnknownKindsAnswered := by
  refine ⟨fun s rest hs hr => ⟨fun tag code hl => ?_, fun f hl hreset => ?_⟩, fun s f rest h hk => ?_⟩
  · show Host.Outcome.next (outOfReset _ s) = _
    rw [outOfReset_of_not hs]
    unfold answerNote; rw [hr, hl]
    cases code <;> rfl
  · show Host.Outcome.next (outOfReset _ s) = _
    rw [outOfReset_of_not hs]
    unfold answerNote; rw [hr, hl]
    dsimp only
    rw [if_pos hreset]; rfl
  · obtain ⟨hs, hreset, hr, hl⟩ := h
    show Host.Outcome.next (outOfReset _ s) = _
    rw [outOfReset_of_not hs]
    unfold handleHead; rw [hr, hl]
    dsimp only
    rw [if_pos (by simp [hreset, requestOfKind_unknown hk])]; rfl

/-! ## The transmitter -/

theorem exec_transmitterFree (h : s.inReset = false) : exec .transmitterFree s = .next (chooseFrame s) :=
  congrArg _ (outOfReset_of_not h)

theorem chooseFrame_of_reply {r : Frame} (h : s.replySlot = some r) :
    chooseFrame s = (s.setReply none).setSending (some r.bytes) := by unfold chooseFrame; rw [h]

theorem chooseFrame_of_resetting (hr : s.replySlot = none) (h : s.resetting = true) :
    chooseFrame s = s.setSending none := by unfold chooseFrame; rw [hr, h]; rfl

theorem chooseFrame_of_notices (hr : s.replySlot = none) (h : s.resetting = false) :
    chooseFrame s = sendNotice s.noticeQueue s := by unfold chooseFrame; rw [hr, h]; rfl

/-- The source at the head of the notice queue has flags to report (R151). -/
theorem sendNotice_of_reportable {src : Source} {rest : List Source} {flags : FlagSet} (hf : s.reportable src = flags)
    (h : flags ≠ 0) :
    sendNotice (src :: rest) s = (s.setQueue rest).setSending (some (noticeFrame src flags).bytes) := by
  subst hf; exact if_neg h

/-- Whose flags are reported does not depend on the queue. -/
theorem sendNotice_setQueue (q r : List Source) (s : State) : sendNotice q (s.setQueue r) = sendNotice q s := by
  induction q with
  | nil => rfl
  | cons src rest ih =>
    unfold sendNotice
    split
    · next h => rw [if_pos (show s.reportable src = 0 from h)]; exact ih
    · next h => rw [if_neg (show ¬ s.reportable src = 0 from h)]; rfl

/-- Settles O7: the branches of the choice. -/
theorem freeTransmitterChooses : Obligations.FreeTransmitterChooses := by
  intro s hs
  rw [exec_transmitterFree hs]
  refine ⟨fun r hr => ?_, fun src rest hr hn hq hf => ?_, fun src rest hr hn hq hf => ?_, fun hr h => ?_, fun h => ?_,
    fun h => ?_⟩
  · rw [chooseFrame_of_reply hr]; rfl
  · rw [chooseFrame_of_notices hr hn, hq, sendNotice_of_reportable rfl hf]; rfl
  · rw [exec_transmitterFree (s := s.setQueue rest) hs, chooseFrame_of_notices hr hn,
      chooseFrame_of_notices (s := s.setQueue rest) hr hn, hq, sendNotice, if_pos hf]
    exact congrArg _ (sendNotice_setQueue _ _ _).symm
  · obtain hreset | hq := h
    · rw [chooseFrame_of_resetting hr hreset]; rfl
    · by_cases hreset : s.resetting = true
      · rw [chooseFrame_of_resetting hr hreset]; rfl
      · rw [chooseFrame_of_notices hr (by simpa using hreset), hq]
        show Host.Outcome.next ((s.setQueue []).setSending none) = _
        rw [← hq]; rfl
  · exact transmit_of_sending (Option.isSome_iff_ne_none.mpr h)
  · rw [transmit_of_free h]

/-! ## Requests in general -/

/-- Settles O9: every request is one block (`request_block`), refused or carried out. -/
theorem requestGetsOneReply : Obligations.RequestGetsOneReply := by
  intro s f rest c h hc
  obtain ⟨block, he, hb⟩ := request_block (kindOfRequest_of_requestOfKind hc)
  obtain ⟨refusal, effect, data, eb, ha⟩ := hb f.payload (s.setList rest)
  obtain ⟨a, _, er⟩ | ⟨hn, er⟩ := refusedOr_cases refusal (effect, .done data) (s.setList rest)
  · refine ⟨s.answered f rest a.status.code a.data, a.status.code, a.data, ?_, rfl, rfl, fun _ => rfl⟩
    rw [he, handleRequest_refused h (eb.trans er)]
  · refine ⟨effect.setReply (some (replyTo f (.done data))), 0x00, data, ?_, ?_, rfl, fun k => absurd rfl k⟩
    · rw [he, handleRequest_handles h, eb, er]
    · obtain k | rfl := ha hn
      · exact k.sameLink.recvList
      · rfl

/-- Settles O10: while a RESET is carried out no head is handled. -/
theorem resetRequestMakesReceiverDeaf : Obligations.ResetRequestMakesReceiverDeaf := by
  intro s tag rest h
  refine ⟨congrArg _ (handleRequest_handles h resetBlock), fun u c k hu hc => ?_⟩
  obtain ⟨block, he, _⟩ := request_block (kindOfRequest_of_requestOfKind hc)
  rw [he]
  obtain e | ⟨f, l, _, ⟨_, hn, _⟩, _⟩ := handleRequest_cases k block u
  · rw [e]
  · rw [hu] at hn; cases hn

/-! ## Resets -/

/-- A reset with the stop line asserted sets STOP_ON, and the free transmitter begins its notice at once (R120,
R151). -/
theorem transmit_stopOn (straps : BitVec 2) (s : State) : transmit (completeReset straps true s) =
    { State.reset with
      baud := Baud.ofStraps straps, stopLine := true, tick := s.tick, pending := s.pending
      globalNotices := { pending := 0x4, enabled := 0xF }
      sending := some (⟨0x40, 0, [7, 0x04, 0x00]⟩ : Frame).bytes } := by
  have set : completeReset straps true s =
      { State.reset with
        baud := Baud.ofStraps straps, stopLine := true, tick := s.tick, pending := s.pending
        globalNotices := { pending := 0x4, enabled := 0xF }, noticeQueue := [.global] } := by
    refine (setFlag_of_enabled (show (0 : FlagSet) &&& 4 = 0 by decide)
      (show (0xF : FlagSet) &&& 4 ≠ 0 by decide)).trans ((queueSource_of_not_mem ?_).trans ?_)
    · exact List.not_mem_nil
    · show State.setQueue (State.setGlobal { State.cleared straps true with
        stations := Vector.replicate 6 Station.reset, tick := s.tick, pending := s.pending }
          { pending := 0 ||| 4, enabled := 0xF }) [.global] = _
      rfl
  rw [set, transmit_of_free rfl, chooseFrame_of_notices rfl rfl]
  refine (sendNotice_of_reportable (flags := 4) ?_ (by decide)).trans rfl
  exact show (4 : FlagSet) &&& 0xF = 4 by decide

/-- Settles O11: a completed reset with its notice begun where the line is asserted, and the reset values. -/
theorem resetsLeaveResetValues : Obligations.ResetsLeaveResetValues := by
  refine ⟨fun s straps stop => ?_, rfl, rfl, rfl, rfl, ?_, ?_, rfl, rfl, rfl, rfl, rfl, rfl, rfl, rfl, ?_⟩
  · intro after
    have complete : transmit (completeReset straps stop s) = after := by
      cases stop with
      | false => exact transmit_of_nothing rfl rfl rfl
      | true => exact transmit_stopOn straps s
    refine ⟨fun h => ?_, fun h => ?_, fun h hreset hl hr hb => ?_, holdInReset s, rfl, rfl, rfl, rfl, rfl, rfl, rfl, ?_⟩
    · show Host.Outcome.next (if s.inReset = true then _ else _) = _
      rw [if_neg (by simp [h]), complete]
    · show Host.Outcome.next (if s.inReset = true then _ else _) = _
      rw [if_pos h, complete]
    · show Host.Outcome.next (outOfReset _ s) = _
      rw [outOfReset_of_not h, if_pos (by simp [State.repliesSent, hreset, hl, hr, hb]), complete]
    · intro p; rw [State.st_replicate rfl p]; rfl
  · intro i; simp [State.reset, State.cleared]
  · intro i; simp [State.reset, State.cleared, Slot.cleared]
  · intro p; rw [State.st_replicate rfl p]; rfl

end

end Sys2Proof.Machine
end

section
/-! The requests of the Setup Table and the Master Strip Buffer: STATUS, SETUP DEFINE, SETUP CLOSE, windows, rows. -/

namespace Sys2Proof.Machine

section
variable {s t : State} {f : Frame} {rest : List Entry}

/-! ## A request carried out or refused -/

/-- A request whose checks pass is answered DONE after its effect (R159, R160). -/
theorem request_done {c : Instr} {block : List Byte → State → State × Answer} {refusal : Option Answer}
    {effect : State} {data : List Byte} (h : s.handles f rest)
    (he : exec c s = .next (handleRequest f.kind block s))
    (hb : block f.payload (s.setList rest) = refusedOr refusal (effect, .done data) (s.setList rest))
    (hn : refusal = none) :
    exec c s = .next (transmit (effect.setReply
      (some { kind := f.kind + 0x80, tag := f.tag, payload := 0x00 :: data }))) := by
  rw [he, handleRequest_handles h, hb, hn]; rfl

/-- A request that a check refuses is answered with the refusal alone (R160). -/
theorem request_refused {c : Instr} {block : List Byte → State → State × Answer} {refusal : Option Answer}
    {effect : State × Answer} {a : Answer} (h : s.handles f rest)
    (he : exec c s = .next (handleRequest f.kind block s))
    (hb : block f.payload (s.setList rest) = refusedOr refusal effect (s.setList rest))
    (ha : refusal = some a) :
    exec c s = .next (transmit (s.answered f rest a.status.code a.data)) := by
  rw [he, handleRequest_refused h (hb.trans (by rw [ha]; rfl))]

theorem checkThat_of {ok : Bool} {a : Answer} (h : ok = true) : checkThat ok a = none := (checkThat_eq_none ok a).mpr h

theorem checkThat_of_not {ok : Bool} {a : Answer} (h : ok = false) : checkThat ok a = some a := by rw [h]; rfl

/-! ## Fields of a payload -/

/-- The two-byte field after a number of bytes. -/
theorem halfAt_of_eq {l pre post : List Byte} {n i : Nat} (hl : l = pre ++ (halfBytes n ++ post))
    (hi : pre.length = i) (hn : n < 65536) : halfAt l i = n := by
  subst hl hi; exact halfAt_append pre post hn

/-- The one-byte field after a number of bytes. -/
theorem byteAt_of_eq {l pre post : List Byte} {n i : Nat} (hl : l = pre ++ byteOf n :: post) (hi : pre.length = i)
    (hn : n < 256) : byteAt l i = n := by
  subst hl hi; rw [byteAt_append, byteOf_toNat hn]

theorem inRange_iff {lo hi n : Nat} : inRange lo hi n = true ↔ lo ≤ n ∧ n ≤ hi := by simp [inRange]

/-! ## STATUS -/

/-- Settles O8: the reply's data is read off the state as it stands. -/
theorem statusReportsSetupAndBuffer : Obligations.StatusReportsSetupAndBuffer := by
  intro s tag rest h
  exact request_done (effect := s.setList rest) h rfl rfl rfl

/-! ## SETUP DEFINE and SETUP CLOSE -/

theorem someSpinning_eq_false : s.someSpinning = false ↔
    ∀ p, (s.st p).state ≠ .spinup ∧ (s.st p).state ≠ .dressing := by
  simp [State.someSpinning, mem_allStations]

/-- Settles O12: the fields read back, the checks pass, and `defineSetup` is the state that the statement writes out. -/
theorem setupDefineLoadsSetup : Obligations.SetupDefineLoadsSetup := by
  intro s tag rest w h k f hh hw1 hw2 hh1 hh2 hk hs
  have fw : halfAt f.payload 0 = w := halfAt_of_eq (pre := []) (by simp [f]; rfl) rfl (by omega)
  have fh : halfAt f.payload 2 = h := halfAt_of_eq (pre := halfBytes w) (by simp [f]; rfl) rfl (by omega)
  have fk : byteAt f.payload 4 = k := byteAt_of_eq (pre := halfBytes w ++ halfBytes h) rfl rfl (by omega)
  have checks : setupDefineCheck f.payload (s.setList rest) = none := by
    simp only [setupDefineCheck, Option.or_eq_none_iff, checkLength_eq_none, checkThat_eq_none, Option.map_eq_none_iff,
      firstBad_eq_none, fw, fh, fk]
    refine ⟨rfl, ?_, by simp [inRange]; omega⟩
    obtain none | ⟨loaded, idle⟩ := hs
    · simp [none]
    · have still : (s.setList rest).someSpinning = false := someSpinning_eq_false.mpr idle
      simp [loaded, still]
  refine (request_done hh rfl rfl checks).trans ?_
  rw [fw, fh, fk]; rfl

/-- One change of every station, carried out on all six: only the stations change. -/
theorem forStations_modSt_eq (g : Station → Station) (s : State) :
    ∃ v, forStations (fun q s => s.modSt q g) s = s.setStations v := by
  refine forStations_induction _ (fun u => ∃ v, u = s.setStations v) ?_ s ⟨s.stations, rfl⟩
  rintro p _ ⟨v, rfl⟩
  exact ⟨_, rfl⟩

theorem closeStation_eq : closeStation = fun q s => s.modSt q (fun x => ((x.sends .lift).sends .spinOff).shutOff) := by
  funext q s
  simp only [closeStation, issueLiftOff, issue, State.modSt_modSt]
  rfl

/-- Settles O13: every station is shut off, and the setup and the buffer start anew. -/
theorem setupCloseTearsDown : Obligations.SetupCloseTearsDown := by
  intro s tag rest h hs
  have checks : setupCloseCheck [] (s.setList rest) = none := by
    simp [setupCloseCheck, Option.or_eq_none_iff, hs]
  have shut := forStations_modSt_st (fun x => ((x.sends .lift).sends .spinOff).shutOff) (s.setList rest)
  obtain ⟨v, hv⟩ := forStations_modSt_eq (fun x => ((x.sends .lift).sends .spinOff).shutOff) (s.setList rest)
  rw [hv] at shut
  rw [← closeStation_eq] at hv
  refine ⟨_, request_done h rfl rfl checks, ?_, fun p => ?_⟩
  · rw [closeSetup, hv]; rfl
  · rw [closeSetup, hv]; exact shut p

/-! ## Windows -/

/-- A slot of the window table named by its number. -/
theorem putWindow_eq (s : State) (n : Fin 4) (w : Option Window) :
    s.putWindow n.val w = s.setWindows (s.windows.set n w) := by
  unfold State.putWindow
  congr 1
  apply Vector.ext
  intro i hi
  simp [Vector.getElem_setIfInBounds, Vector.getElem_set]

theorem checkSetup_of_open (h : s.setup = .loaded ∨ s.setup = .active) : checkSetup s = none :=
  (checkSetup_eq_none s).mpr h

/-- Settles O14: the fields read back and the checks pass. -/
theorem windowWrittenOrEmptied : Obligations.WindowWrittenOrEmptied := by
  intro s tag rest n hs
  refine ⟨fun w => ?_, fun h => ?_⟩
  · intro f h hr hc hre hce dr dc fits
    have hn := n.isLt
    have fn : byteAt f.payload 0 = n.val := byteAt_of_eq (pre := []) rfl rfl (by omega)
    have fr : halfAt f.payload 1 = w.baseRow :=
      halfAt_of_eq (pre := [byteOf n.val]) (by simp [f]; rfl) rfl (by omega)
    have fc : halfAt f.payload 3 = w.baseCol :=
      halfAt_of_eq (pre := [byteOf n.val] ++ halfBytes w.baseRow) (by simp [f]; rfl) rfl (by omega)
    have fre : byteAt f.payload 5 = w.rowExp :=
      byteAt_of_eq (pre := [byteOf n.val] ++ halfBytes w.baseRow ++ halfBytes w.baseCol) rfl rfl (by omega)
    have fce : byteAt f.payload 6 = w.colExp :=
      byteAt_of_eq (pre := [byteOf n.val] ++ halfBytes w.baseRow ++ halfBytes w.baseCol ++ [byteOf w.rowExp])
        (by simp [f]; rfl) rfl (by omega)
    have window : windowOf f.payload = w := by simp only [windowOf, fr, fc, fre, fce]
    have checks : windowSetCheck f.payload (s.setList rest) = none := by
      simp only [windowSetCheck, Option.or_eq_none_iff, checkLength_eq_none, checkThat_eq_none, Option.map_eq_none_iff,
        firstBad_eq_none, fn, fr, fc, fre, fce, window]
      refine ⟨rfl, checkSetup_of_open hs, by simp [inRange]; omega, ?_, decide_eq_true fits⟩
      simp [Window.aligned, Nat.mod_eq_zero_of_dvd dr, Nat.mod_eq_zero_of_dvd dc]
    refine (request_done h rfl rfl checks).trans ?_
    rw [fn, window, putWindow_eq]; rfl
  · have hn := n.isLt
    have fn : byteAt [byteOf n.val] 0 = n.val := byteAt_of_eq (pre := []) rfl rfl (by omega)
    have checks : windowClearCheck [byteOf n.val] (s.setList rest) = none := by
      simp only [windowClearCheck, Option.or_eq_none_iff, checkLength_eq_none, Option.map_eq_none_iff,
        firstBad_eq_none, fn]
      exact ⟨rfl, checkSetup_of_open hs, by simp [inRange]; omega⟩
    refine (request_done h rfl rfl checks).trans ?_
    show Host.Outcome.next (transmit (((s.setList rest).putWindow (byteAt [byteOf n.val] 0) none).setReply _)) = _
    rw [fn, putWindow_eq]; rfl

/-! ## Rows -/

/-- The two bytes of each sample. -/
theorem length_flatMap_halfBytes (l : List Nat) : (l.flatMap halfBytes).length = 2 * l.length := by
  induction l with
  | nil => rfl
  | cons n l ih => rw [List.flatMap_cons, List.length_append, ih, List.length_cons]; simp [halfBytes]; omega

/-- The samples of a ROW read back as they were sent (R163). -/
theorem rowSamples_eq {pre : List Byte} {samples : List Nat} (hp : pre.length = 2) (h : ∀ m ∈ samples, m < 65536) :
    rowSamples (pre ++ samples.flatMap halfBytes) samples.length = samples := by
  refine List.ext_getElem (by simp [rowSamples]) fun i hi hl => ?_
  have split : pre ++ samples.flatMap halfBytes =
      (pre ++ (samples.take i).flatMap halfBytes) ++
        (halfBytes samples[i] ++ (samples.drop (i + 1)).flatMap halfBytes) := by
    rw [List.append_assoc, ← List.flatMap_cons, ← List.flatMap_append, List.getElem_cons_drop,
      List.take_append_drop]
  simp only [rowSamples, List.getElem_map, List.getElem_range]
  refine halfAt_of_eq split ?_ (h _ (List.getElem_mem hl))
  rw [List.length_append, hp, length_flatMap_halfBytes, List.length_take_of_le hl.le]

theorem slot_takes_row {slot : Slot} {k : Nat} (h : slot.state = .empty ∨ slot.strip = some k) :
    (decide (slot.state = .empty) || decide (slot.strip = some k)) = true := by simpa using h

/-- Settles O16: the samples read back, the checks pass, and the waking of the stations is the fold over the six. -/
theorem rowStoredInItsSlot : Obligations.RowStoredInItsSlot := by
  intro s tag rest samples k slot f stored come data h open_ inFace small width range free
  have fr : halfAt f.payload 0 = s.nextRow := halfAt_of_eq (pre := []) rfl rfl small
  have read : rowSamples f.payload (s.setList rest).width = samples := by
    rw [show (s.setList rest).width = samples.length from width.symm]
    exact rowSamples_eq rfl range
  have checks : rowCheck f.payload (s.setList rest) = none := by
    simp only [rowCheck, Option.or_eq_none_iff, checkThat_eq_none, fr]
    refine ⟨by simp [f, halfBytes], checkSetup_of_open open_, ?_, slot_takes_row free, ?_⟩
    · rw [Bool.and_eq_true]; exact ⟨decide_eq_true rfl, decide_eq_true inFace⟩
    · simp only [f, List.length_append, length_flatMap_halfBytes]
      exact decide_eq_true (by rw [width]; rfl)
  refine (request_done h rfl rfl checks).trans ?_
  rw [fr, read]
  congr 3
  unfold storeRow
  by_cases full : slot.rows + 1 = s.rowsOf k
  · rw [if_pos full]
    exact if_pos (if_pos full)
  · rw [if_neg full]
    refine if_neg fun e => ?_
    cases (if_neg full).symm.trans e

/-- Settles O17: the first check that fails gives the answer. -/
theorem rowRefusedOutOfOrderOrFull : Obligations.RowRefusedOutOfOrderOrFull := by
  intro s f rest hk h hl hs
  have block : ∀ u, exec .row u = .next (handleRequest f.kind rowBlock u) := fun u => by rw [hk]; rfl
  refine ⟨fun wrong => ?_, fun other order inFace taken strip hother => ?_⟩
  · refine request_refused h (block s) rfl (a := { status := .outOfOrder, data := halfBytes s.nextRow }) ?_
    have outOfOrder : (decide (halfAt f.payload 0 = s.nextRow) && decide (s.nextRow < s.height)) = false := by
      simp; omega
    show rowCheck f.payload s = _
    unfold rowCheck; dsimp only
    rw [checkThat_of (decide_eq_true hl), Option.none_or, checkSetup_of_open hs, Option.none_or,
      checkThat_of_not outOfOrder, Option.some_or]
  · refine request_refused h (block s) rfl (a := { status := .bufferFull, data := [byteOf other] }) ?_
    have inOrder : (decide (halfAt f.payload 0 = s.nextRow) && decide (s.nextRow < s.height)) = true := by
      simp [order, inFace]
    have held : (decide (s.slots[slotOf (stripOfRow s.nextRow)].state = .empty) ||
        decide (s.slots[slotOf (stripOfRow s.nextRow)].strip = some (stripOfRow s.nextRow))) = false := by
      rw [Bool.or_eq_false_iff]
      exact ⟨decide_eq_false taken, decide_eq_false fun e => hother (Option.some.inj (strip.symm.trans e))⟩
    have full : s.slots[slotOf (stripOfRow s.nextRow)].strip.getD 0 = other := congrArg (fun o => o.getD 0) strip
    show rowCheck f.payload s = _
    unfold rowCheck; dsimp only
    rw [checkThat_of (decide_eq_true hl), Option.none_or, checkSetup_of_open hs, Option.none_or,
      checkThat_of inOrder, Option.none_or]
    simp only [order]
    rw [checkThat_of_not held, Option.some_or, full]

end

end Sys2Proof.Machine
end

section
/-! The requests that name one station: the control requests, STATION CONFIG, START, the dressing record and the
reports. -/

namespace Sys2Proof.Machine

section
variable {s u : State} {p : StationId} {tag kind : Byte} {rest : List Entry} {c : Instr}

/-! ## A request that names a station -/

@[simp] theorem namedStation_cons (p : StationId) (l : List Byte) : namedStation (byteOf p.val :: l) = p := by
  simp [namedStation, stationField_byteOf]

@[simp] theorem checkStation_cons (p : StationId) (l : List Byte) : checkStation (byteOf p.val :: l) = none := by
  simp [checkStation, stationField_byteOf]

/-- Of the checks of a control request only the station's state is left (R106). -/
theorem checkNamed_stationPayload (accepts : StationState → Bool) (p : StationId) (s : State) :
    checkNamed 1 accepts (stationPayload p) s = checkThat (accepts (s.st p).state) (.refuse .wrongState) := by
  unfold checkNamed
  rw [(checkLength_eq_none 1 _).mpr rfl, Option.none_or, checkStation_cons, Option.none_or, namedStation_cons]

/-- A control request that passes its checks: its operation, and the station's state after it (R106). -/
theorem control_done {check : List Byte → State → Option Answer} {op : StationId → State → State}
    (h : s.handles ⟨kind, tag, stationPayload p⟩ rest)
    (he : exec c s = .next (handleRequest kind (fun payload u =>
      refusedOr (check payload u) (controlled (namedStation payload) (op (namedStation payload) u)) u) s))
    (hn : check (stationPayload p) (s.setList rest) = none) (hu : op p (s.setList rest) = u) :
    exec c s = .next (transmit (u.setReply (some ⟨kind + 0x80, tag, 0x00 :: controlData p u⟩))) := by
  refine (request_done h he rfl hn).trans ?_
  subst hu
  rw [namedStation_cons]

/-- A control request whose operation changes its station alone. -/
theorem control_changes {check : List Byte → State → Option Answer} {op : StationId → State → State}
    {g : Station → Station} {data : List Byte} (h : s.handles ⟨kind, tag, stationPayload p⟩ rest)
    (he : exec c s = .next (handleRequest kind (fun payload u =>
      refusedOr (check payload u) (controlled (namedStation payload) (op (namedStation payload) u)) u) s))
    (hn : check (stationPayload p) (s.setList rest) = none)
    (hu : op p (s.setList rest) = (s.setList rest).modSt p g)
    (hd : [(g (s.st p)).state.code, flagByte (g (s.st p)).holdPending, flagByte (g (s.st p)).parkPending] = data) :
    exec c s = .next (transmit ((s.modSt p g).answered ⟨kind, tag, stationPayload p⟩ rest 0x00 data)) := by
  refine (control_done h he hn hu).trans ?_
  rw [controlData, State.modSt_st_self, ← hd]; rfl

theorem State.modSt_self (s : State) (p : StationId) : s.modSt p (fun _ => s.st p) = s := by
  have : s.modSt p (fun _ => s.st p) = s.setStations s.stations := by
    unfold State.modSt
    congr 1
    exact Vector.set_getElem_self p.isLt
  exact this

/-! ## HOLD and PARK -/

theorem takePark_eq (p : StationId) (s : State) : takePark p s = s.modSt p (fun x =>
    { (x.sends .spinOff).outOfRun with state := .parked, parkPending := false, holdPending := false }) := by
  simp only [takePark, issue, State.modSt_modSt]; rfl

theorem enterHeld_of_no_park {b : Bool} (h : (s.st p).parkPending = false) : enterHeld p b s = s.modSt p (fun x =>
    { x.outOfRun with state := .held, holdPending := false, resumeSpinup := b }) := by
  unfold enterHeld; rw [h]; rfl

theorem enterHeld_of_park {b : Bool} (h : (s.st p).parkPending = true) : enterHeld p b s = s.modSt p (fun x =>
    { (x.sends .spinOff).outOfRun with
      state := .parked, holdPending := false, parkPending := false, resumeSpinup := b }) := by
  unfold enterHeld; dsimp only
  rw [if_pos h, takePark_eq, State.modSt_modSt]; rfl

theorem cutShort_eq (p : StationId) (s : State) :
    cutShort p s = enterHeld p false (s.modSt p (fun x => x.sends .lift)) := rfl

theorem holdStation_cutting (h : (s.st p).state = .cutting) : holdStation p s = cutShort p s := by
  unfold holdStation; rw [h]

theorem holdStation_waiting (h : (s.st p).state = .waiting) : holdStation p s = enterHeld p false s := by
  unfold holdStation; rw [h]

theorem holdStation_spinup (h : (s.st p).state = .spinup) : holdStation p s =
    enterHeld p true (s.modSt p (fun x => { x with timers := { x.timers with settle := none } })) := by
  unfold holdStation; rw [h]

theorem holdStation_dressing (h : (s.st p).state = .dressing) : holdStation p s =
    s.modSt p (fun x => { x with holdPending := true }) := by
  unfold holdStation; rw [h]

theorem holdStation_held (h : (s.st p).state = .held) : holdStation p s = s := by
  unfold holdStation; rw [h]

/-- Settles O21: the three states that HOLD takes into HELD differ in the station that enters it. -/
theorem holdTakenByState : Obligations.HoldTakenByState := by
  intro s tag rest p f x settled h
  have accepted : holdAccepts x.state = true →
      checkNamed 1 holdAccepts (stationPayload p) (s.setList rest) = none := fun hx => by
    rw [checkNamed_stationPayload]; exact checkThat_of hx
  refine ⟨fun y toSpinup hy => ?_, fun hx => ?_, fun hx => ?_⟩
  · have enters : holdStation p (s.setList rest) = enterHeld p toSpinup ((s.setList rest).modSt p fun _ => y) ∧
        holdAccepts x.state = true ∧ y.parkPending = x.parkPending := by
      obtain ⟨hx, rfl, rfl⟩ | ⟨hx, rfl, rfl⟩ | ⟨hx, rfl, rfl⟩ := hy
      · refine ⟨(holdStation_cutting (s := s.setList rest) hx).trans ((cutShort_eq _ _).trans ?_), by rw [hx]; rfl, rfl⟩
        exact congrArg (enterHeld p false) (modSt_congr rfl)
      · refine ⟨(holdStation_waiting (s := s.setList rest) hx).trans ?_, by rw [hx]; rfl, rfl⟩
        exact congrArg (enterHeld p false) (State.modSt_self (s.setList rest) p).symm
      · refine ⟨(holdStation_spinup (s := s.setList rest) hx).trans ?_, by rw [hx]; rfl, rfl⟩
        exact congrArg (enterHeld p true) (modSt_congr rfl)
    obtain ⟨enters, accepts, park⟩ := enters
    refine ⟨fun hp => ?_, fun hp => ?_⟩
    · exact control_changes (c := .hold) h rfl (accepted accepts) (enters.trans
        ((enterHeld_of_no_park (by rw [State.modSt_st_self, park, hp])).trans (State.modSt_modSt ..)))
        (congrArg (fun b => [6, 0, flagByte b]) (park.trans hp))
    · exact control_changes (c := .hold) h rfl (accepted accepts) (enters.trans
        ((enterHeld_of_park (by rw [State.modSt_st_self, park, hp])).trans (State.modSt_modSt ..))) rfl
  · exact control_changes (c := .hold) h rfl (accepted (by rw [hx]; rfl))
      (holdStation_dressing (s := s.setList rest) hx)
      (congrArg (fun b => [StationState.code b, 1, flagByte x.parkPending]) hx)
  · refine (control_done h rfl (accepted (by rw [hx]; rfl)) (holdStation_held (s := s.setList rest) hx)).trans ?_
    unfold controlData
    rw [State.setList_st, hx]; rfl

theorem parkStation_idle (h : (s.st p).state = .idle) : parkStation p s =
    takePark p (s.modSt p (fun x => { x with ret := .idle })) := by
  unfold parkStation; rw [h]

theorem parkStation_done (h : (s.st p).state = .done) : parkStation p s =
    takePark p (s.modSt p (fun x => { x with ret := .done })) := by
  unfold parkStation; rw [h]

theorem parkStation_rests (h : (s.st p).state = .waiting ∨ (s.st p).state = .held) :
    parkStation p s = takePark p s := by
  unfold parkStation
  obtain h | h := h <;> rw [h]

theorem parkStation_works (h : (s.st p).state = .cutting ∨ (s.st p).state = .dressing) : parkStation p s =
    s.modSt p (fun x => { x with parkPending := true }) := by
  unfold parkStation
  obtain h | h := h <;> rw [h]

/-- Settles O24: PARK is taken at once or left pending, by the station's state. -/
theorem parkTakenByState : Obligations.ParkTakenByState := by
  intro s tag rest p f h
  have accepted : parkAccepts (s.st p).state = true →
      checkNamed 1 parkAccepts (stationPayload p) (s.setList rest) = none := fun hx => by
    rw [checkNamed_stationPayload]; exact checkThat_of hx
  have pends : ((s.st p).state = .cutting ∨ (s.st p).state = .dressing) →
      exec .park s = .next (transmit ((s.modSt p (fun x => { x with parkPending := true })).answered f rest 0x00
        [(s.st p).state.code, flagByte (s.st p).holdPending, 1])) := fun hx =>
    control_changes (c := .park) h rfl (accepted (by obtain hx | hx := hx <;> rw [hx] <;> rfl))
      (parkStation_works (s := s.setList rest) hx) rfl
  refine ⟨fun r hr => ?_, fun hx => ?_, fun hx => ?_⟩
  · obtain ⟨hx, rfl⟩ | ⟨hx, rfl⟩ | ⟨hx, rfl⟩ := hr
    · refine control_changes (c := .park) h rfl (accepted (by rw [hx]; rfl))
        ((parkStation_idle (s := s.setList rest) hx).trans ?_) rfl
      rw [takePark_eq, State.modSt_modSt]; exact modSt_congr rfl
    · refine control_changes (c := .park) h rfl (accepted (by rw [hx]; rfl))
        ((parkStation_done (s := s.setList rest) hx).trans ?_) rfl
      rw [takePark_eq, State.modSt_modSt]; exact modSt_congr rfl
    · refine control_changes (c := .park) h rfl (accepted (by obtain hx | hx := hx <;> rw [hx] <;> rfl))
        ((parkStation_rests (s := s.setList rest) hx).trans ?_) rfl
      rw [takePark_eq]; exact modSt_congr rfl
  · have e := pends (.inl hx)
    rwa [hx] at e
  · have e := pends (.inr hx)
    rwa [hx] at e

/-! ## RESUME and UNPARK -/

theorem enterSpinup_eq (p : StationId) (s : State) : enterSpinup p s = s.modSt p (fun x =>
    { x.sends .spinOn with
      state := .spinup, captures := [], captureRef := none, resumeSpinup := false
      timers := { x.timers with settle := startTimer s.tick (x.cfg.settle * 1024) } }) := by
  simp only [enterSpinup, issue, State.modSt_modSt]; rfl

/-- A request that spins its station up, once the station's state accepts it: the stop line and the worn flag decide
(R115, R118). -/
theorem spinup_answered {accepts : StationState → Bool} {op : StationId → State → State}
    (h : s.handles ⟨kind, tag, stationPayload p⟩ rest)
    (he : exec c s = .next (handleRequest kind (fun payload u =>
      refusedOr ((checkNamed 1 accepts payload u).or (checkSpindle payload u))
        (controlled (namedStation payload) (op (namedStation payload) u)) u) s))
    (ha : accepts (s.st p).state = true) (hu : op p (s.setList rest) = enterSpinup p (s.setList rest)) :
    (s.stopLine = true → exec c s = .next (transmit (s.answered ⟨kind, tag, stationPayload p⟩ rest 0x09 []))) ∧
    (s.stopLine = false → (s.st p).dress.worn = true →
      exec c s = .next (transmit (s.answered ⟨kind, tag, stationPayload p⟩ rest 0x0C []))) ∧
    (s.stopLine = false → (s.st p).dress.worn = false →
      exec c s = .next (transmit ((s.modSt p (fun x =>
        { x.sends .spinOn with
          state := .spinup, captures := [], captureRef := none, resumeSpinup := false
          timers := { x.timers with settle := startTimer s.tick (x.cfg.settle * 1024) } })).answered
            ⟨kind, tag, stationPayload p⟩ rest 0x00
            [2, flagByte (s.st p).holdPending, flagByte (s.st p).parkPending]))) := by
  have spindle : (checkNamed 1 accepts (stationPayload p) (s.setList rest)).or
      (checkSpindle (stationPayload p) (s.setList rest)) =
        (checkThat (!s.stopLine) (.refuse .stopActive)).or (checkThat (!(s.st p).dress.worn) (.refuse .worn)) := by
    rw [checkNamed_stationPayload, checkThat_of (by exact ha), Option.none_or, checkSpindle, namedStation_cons]; rfl
  refine ⟨fun stop => ?_, fun stop worn => ?_, fun stop worn => ?_⟩
  · exact request_refused (a := .refuse .stopActive) h he rfl (spindle.trans (by rw [stop]; rfl))
  · exact request_refused (a := .refuse .worn) h he rfl (spindle.trans (by rw [stop, worn]; rfl))
  · exact control_changes h he (spindle.trans (by rw [stop, worn]; rfl)) (hu.trans (enterSpinup_eq _ _)) rfl

/-- Settles O22: RESUME spins up all but the station held in CUTTING or DRESSING, and UNPARK every one. -/
theorem resumeAndUnparkSpinUp : Obligations.ResumeAndUnparkSpinUp := by
  intro s tag rest p c kind f h hc
  obtain ⟨rfl, rfl, hx⟩ | ⟨rfl, rfl, hx⟩ := hc
  · have accepted : resumeAccepts (s.st p).state = true := by
      obtain hx | hx | ⟨hx, _⟩ := hx <;> rw [hx] <;> rfl
    refine spinup_answered h rfl accepted (if_neg fun held => ?_)
    obtain ⟨state, resume⟩ := held
    rw [State.setList_st] at state resume
    rw [state, resume] at hx
    simp at hx
  · exact spinup_answered h rfl (decide_eq_true hx) rfl

/-! ## The dressing record -/

theorem dressModeOf_code (m : DressMode) : dressModeOf m.code.toNat = some m := by cases m <;> rfl

/-- Settles O48: the fields read back, and the last check asks for a whole group of quarters. -/
theorem dressingRecordRequests : Obligations.DressingRecordRequests := by
  intro s tag rest p
  refine ⟨?_, fun h hx => ?_⟩
  · intro mode interval f h low high four
    have fp : namedStation f.payload = p := namedStation_cons p _
    have fs : checkStation f.payload = none := checkStation_cons p _
    have fm : dressModeOf (byteAt f.payload 1) = some mode := dressModeOf_code mode
    have fi : halfAt f.payload 2 = interval := half_toNat (by omega)
    have checks : dressModeCheck f.payload (s.setList rest) =
        checkThat (decide ((s.st p).dress.qsum = 0)) (.refuse .partialGroup) := by
      have inRange_ : (inRange 64 65532 interval && decide (interval % 4 = 0)) = true := by
        simpa [inRange] using ⟨⟨low, high⟩, Nat.mod_eq_zero_of_dvd four⟩
      unfold dressModeCheck
      rw [(checkLength_eq_none 4 _).mpr rfl, Option.none_or, fs, Option.none_or, fm,
        checkThat_of (ok := (some mode).isSome) rfl, Option.none_or, fi, checkThat_of inRange_, Option.none_or, fp]
      rfl
    refine ⟨fun whole => ?_, fun partly => ?_⟩
    · refine (request_done h rfl rfl (checks.trans (checkThat_of (decide_eq_true whole)))).trans ?_
      rw [fp, fm, fi]; rfl
    · exact request_refused (a := .refuse .partialGroup) h rfl rfl
        (checks.trans (checkThat_of_not (decide_eq_false partly)))
  · have accepted : toolAccepts (s.st p).state = true := by
      simp only [List.mem_cons, List.not_mem_nil, or_false] at hx
      obtain hx | hx | hx | hx := hx <;> rw [hx] <;> rfl
    have checks : checkNamed 1 toolAccepts (stationPayload p) (s.setList rest) = none := by
      rw [checkNamed_stationPayload]; exact checkThat_of accepted
    refine (request_done h rfl rfl checks).trans ?_
    rw [namedStation_cons]; rfl

/-! ## Reports -/

/-- Settles O27: the record is a list of 46 bytes whose parts are read off one after another. -/
theorem stationStatusRecordLayout : Obligations.StationStatusRecordLayout := by
  intro s tag rest p x h
  have checks : (checkLength 1 (stationPayload p)).or (checkStation (stationPayload p)) = none := by
    rw [(checkLength_eq_none 1 _).mpr rfl, Option.none_or, checkStation_cons]
  obtain ⟨d, hd⟩ : ∃ d, d = stationRecord x := ⟨_, rfl⟩
  refine ⟨d, ?_, ?_⟩
  · refine (request_done (effect := s.setList rest) h rfl rfl checks).trans ?_
    rw [namedStation_cons, State.setList_st, hd]; rfl
  unfold stationRecord noticeData at hd
  simp only [halfBytes, List.cons_append, List.nil_append] at hd
  subst hd
  refine ⟨rfl, rfl, fun w hw => ?_, fun hw => ?_, fun pl hp => ?_, fun hp => ?_, rfl, rfl, rfl, rfl, rfl,
    fun ref hr => ?_, fun hr => ?_, rfl⟩
  · rw [hw]; rfl
  · rw [hw]; rfl
  · rw [hp]; rfl
  · rw [hp]; rfl
  · rw [hr]; rfl
  · rw [hr]; rfl

/-- Settles O28: the fields read back and lie inside the map. -/
theorem readStockReportsDepths : Obligations.ReadStockReportsDepths := by
  intro s tag rest p w row col count f h hw inRows small width one inCols
  have fp : namedStation f.payload = p := namedStation_cons p _
  have fr : byteAt f.payload 1 = row := byteOf_toNat (by omega)
  have fc : halfAt f.payload 2 = col := half_toNat (by omega)
  have fn : halfAt f.payload 4 = count := half_toNat (by omega)
  have checks : readStockCheck f.payload (s.setList rest) = none := by
    show readStockCheck f.payload s = none
    simp only [readStockCheck, Option.or_eq_none_iff, checkLength_eq_none, checkThat_eq_none, fp, fr, fc, fn, hw]
    refine ⟨rfl, checkStation_cons p _, rfl, decide_eq_true inRows, decide_eq_true (by omega), ?_⟩
    simpa using ⟨one, inCols⟩
  refine (request_done (effect := s.setList rest) h rfl rfl checks).trans ?_
  rw [fp, fr, fc, fn, stockData, State.setList_st, hw]; rfl

end

end Sys2Proof.Machine
end

section
/-! STATION CONFIG, START, ABORT, the requests of the Notice Unit, the stop line and the drive ports. -/

namespace Sys2Proof.Machine

section
variable {s u : State} {p : StationId} {tag kind : Byte} {rest : List Entry} {c : Instr}

/-! ## STATION CONFIG -/

theorem triggerOf_code (t : Trigger) : triggerOf t.code.toNat = some t := by cases t <;> rfl

theorem flagByte_toNat (b : Bool) : (flagByte b).toNat = if b then 1 else 0 := by cases b <;> rfl

theorem finishEnabled_flagByte (b : Bool) : decide ((flagByte b).toNat = 1) = b := by cases b <;> rfl

/-- The payload of STATION CONFIG carries the record (R163). -/
theorem configOf_configPayload {cfg : StationConfig} (h : cfg.InRange) : configOf (configPayload p cfg) = cfg := by
  obtain ⟨l, hl⟩ : ∃ l, l = configPayload p cfg := ⟨_, rfl⟩
  rw [← hl]
  unfold configPayload at hl
  simp only [halfBytes, List.cons_append, List.nil_append] at hl
  obtain ⟨scale, offset, depthLimit, allowance, bite, finishEnabled, trigger, avgDepth, startPeriod, lead, blank, miss,
    forcedLimit, approach, settle, dressTimeout, hardness, overload, spall⟩ := cfg
  obtain ⟨_, offsetRange, _, _, _, avg, _, _, _, _, _, _, _, _, _, _, _, _⟩ := h
  obtain ⟨small, same⟩ := signed_half (n := offset) (by simp only at offsetRange; omega)
  have average : avgDepth < 256 := by
    simp only [List.mem_cons, List.not_mem_nil, or_false] at avg; omega
  have signed : signedHalfAt l 3 = offset := by
    have read : halfAt l 3 = (offset % 65536).toNat := by rw [hl]; exact half_toNat small
    unfold signedHalfAt; rw [read, same]
  have mode : triggerOf (byteAt l 12) = some trigger := by rw [hl]; exact triggerOf_code trigger
  simp only [configOf, StationConfig.mk.injEq, signed, mode, Option.getD_some]
  subst hl
  exact ⟨half_toNat (by omega), trivial, half_toNat (by omega), half_toNat (by omega), half_toNat (by omega),
    finishEnabled_flagByte _, trivial, byteOf_toNat average, half_toNat (by omega), byteOf_toNat (by omega),
    byteOf_toNat (by omega), byteOf_toNat (by omega), byteOf_toNat (by omega), half_toNat (by omega),
    byteOf_toNat (by omega), byteOf_toNat (by omega), byteOf_toNat (by omega), half_toNat (by omega),
    half_toNat (by omega)⟩

/-- A record in range passes every check of its fields (R107). -/
theorem configChecks_pass {cfg : StationConfig} (h : cfg.InRange) :
    firstBad (configChecks (configPayload p cfg)) = none := by
  rw [firstBad_eq_none]
  unfold configChecks
  rw [configOf_configPayload h,
    show triggerOf (byteAt (configPayload p cfg) 12) = some cfg.trigger from triggerOf_code _,
    show byteAt (configPayload p cfg) 11 = (flagByte cfg.finishEnabled).toNat from rfl, flagByte_toNat]
  obtain ⟨scale, offset, limit, allowance, bite, avg, start, lead, blank, miss, forced, approach, settle, dress,
    hardness, overload, spall, cross⟩ := h
  have finish : inRange 0 1 (if cfg.finishEnabled then 1 else 0) = true := by cases cfg.finishEnabled <;> rfl
  simp only [List.forall_mem_cons, inRange_iff, finish, Bool.and_eq_true, decide_eq_true_eq, Option.isSome_some]
  exact ⟨scale, offset, limit, ⟨Nat.zero_le _, allowance⟩, bite, trivial, trivial, avg, start, ⟨Nat.zero_le _, lead⟩,
    ⟨Nat.zero_le _, blank⟩, miss, ⟨Nat.zero_le _, forced⟩, approach, settle, dress, ⟨Nat.zero_le _, hardness⟩,
    overload, spall, cross, by simp⟩

/-- Settles O19: the record reads back and passes its checks. -/
theorem stationConfigured : Obligations.StationConfigured := by
  intro s tag rest p cfg f h open_ hx inRange_
  have fp : namedStation f.payload = p := namedStation_cons p _
  have checks : stationConfigCheck f.payload (s.setList rest) = none := by
    show stationConfigCheck (configPayload p cfg) s = none
    unfold stationConfigCheck
    rw [configChecks_pass inRange_, checkSetup_of_open open_, (checkLength_eq_none 29 _).mpr rfl,
      show checkStation (configPayload p cfg) = none from checkStation_cons p _,
      show namedStation (configPayload p cfg) = p from fp, checkThat_of (by simpa using hx)]
    rfl
  refine (request_done h rfl rfl checks).trans ?_
  rw [fp, show configOf f.payload = cfg from configOf_configPayload inRange_]; rfl

/-! ## START -/

/-- A station that START names, started and in SPINUP (R108, R109). -/
def Station.startsSpinning (now : Nat) (x : Station) : Station :=
  { x.sends .spinOn with
    state := .spinup, strip := 0, ret := .work, holdPending := false, parkPending := false, resumeSpinup := false
    beff := x.cfg.bite, counts := Counts.zero, captures := [], captureRef := none
    timers := { x.timers with settle := startTimer now (x.cfg.settle * 1024) } }

theorem startStation_eq (s : State) (p : StationId) :
    startStation s p = (s.setMembers (joinSet p s.members)).modSt p (Station.startsSpinning s.tick) := by
  unfold startStation
  rw [enterSpinup_eq, State.modSt_modSt]; rfl

/-- START changes the participation set and the stations, each station named by itself. -/
theorem startStations_eq (l : List StationId) (s : State) (hl : l.Nodup) :
    (∃ m v, l.foldl startStation s = (s.setMembers m).setStations v) ∧
    (∀ q, q ∈ (l.foldl startStation s).members ↔ q ∈ l ∨ q ∈ s.members) ∧
    ∀ q, (l.foldl startStation s).st q = if q ∈ l then (s.st q).startsSpinning s.tick else s.st q := by
  induction l generalizing s with
  | nil => exact ⟨⟨s.members, s.stations, rfl⟩, by simp, by simp⟩
  | cons p l ih =>
    obtain ⟨fresh, hl⟩ := List.nodup_cons.mp hl
    obtain ⟨⟨m, v, hu⟩, hm, hst⟩ := ih (startStation s p) hl
    rw [List.foldl_cons]
    refine ⟨⟨m, v, by rw [hu, startStation_eq]; rfl⟩, fun q => ?_, fun q => ?_⟩
    · rw [hm, startStation_eq, State.modSt_members, State.setMembers_members, mem_joinSet, List.mem_cons, or_left_comm,
        or_assoc]
    · rw [hst, startStation_eq, State.modSt_st, State.modSt_tick]
      by_cases h : p = q
      · subst h
        simp [fresh]
      · simp [h, Ne.symm h]

theorem mem_stationSet {n : Nat} {q : StationId} : q ∈ stationSet n ↔ n.testBit q.val = true := by
  simp [stationSet, mem_allStations]

/-- Settles O20: the six stations are started one after another, each by itself. -/
theorem startSpinsUpNamedStations : Obligations.StartSpinsUpNamedStations := by
  intro s tag set rest h open_ one sixtyThree idle stop released
  have named : ∀ q : StationId, q ∈ stationSet (byteAt [set] 0) ↔ set.getLsbD q.val = true := fun q => mem_stationSet
  have checks : startCheck [set] (s.setList rest) = none := by
    show startCheck [set] s = none
    unfold startCheck; dsimp only
    rw [(checkLength_eq_none 1 [set]).mpr rfl, checkSetup_of_open open_,
      checkThat_of (ok := inRange 1 63 (byteAt [set] 0)) (inRange_iff.mpr ⟨one, sixtyThree⟩),
      checkThat_of (List.all_eq_true.mpr fun q hq => decide_eq_true (idle q ((named q).mp hq))), stop, released]
    rfl
  obtain ⟨⟨m, v, hu⟩, hm, hst⟩ := startStations_eq (stationSet (byteAt [set] 0)) (s.setList rest)
    ((by decide : allStations.Nodup).filter _)
  refine ⟨_, request_done h rfl rfl checks, ?_, fun q => ?_, fun q => ?_⟩
  · rw [hu]; rfl
  · exact (hm q).trans (or_congr_left (named q))
  · refine (hst q).trans ?_
    simp only [named]; rfl

/-! ## NOTICE MASK and NOTICE CLEAR -/

theorem noticeSets_setNoticeSets (s : State) (src : Source) (n : NoticeSets) :
    (s.setNoticeSets src n).noticeSets src = n := by
  cases src with
  | station p => simp [State.setNoticeSets, State.noticeSets]
  | global => rfl

theorem noticeSets_setQueue (s : State) (q : List Source) (src : Source) :
    (s.setQueue q).noticeSets src = s.noticeSets src := by cases src <;> rfl

theorem namedSource_cons (src : Source) (l : List Byte) : namedSource (src.number :: l) = src := by
  simp [namedSource, sourceField_number]

/-- A notice request that names flags of its source passes its checks (R152). -/
theorem noticeCheck_pass {src : Source} {flags : FlagSet} (h : flags &&& ~~~ src.allFlags = 0) :
    noticeCheck (src.number :: halfBytes flags.toNat) = none := by
  unfold noticeCheck
  rw [(checkLength_eq_none 3 _).mpr rfl, sourceField_number]
  simp only [flagSetAt_halfBytes]
  exact checkThat_of (by simp [belongs, h])

/-- The mask, with the queue that it leaves (R153). -/
theorem maskSource_eq (src : Source) (flags : FlagSet) (s : State) :
    maskSource src flags s =
      (s.setNoticeSets src { s.noticeSets src with enabled := flags }).setQueue
        (if src ∉ s.noticeQueue ∧ (s.noticeSets src).pending &&& flags &&& ~~~ (s.noticeSets src).enabled ≠ 0
          then s.noticeQueue ++ [src] else s.noticeQueue) := by
  have queue : ∀ n, (s.setNoticeSets src n).noticeQueue = s.noticeQueue := fun n => by simp
  have same : ∀ n, (s.setNoticeSets src n).setQueue s.noticeQueue = s.setNoticeSets src n := fun n => by
    cases src <;> rfl
  unfold maskSource State.queueSource
  by_cases fresh : (s.noticeSets src).pending &&& flags &&& ~~~ (s.noticeSets src).enabled ≠ 0
  · by_cases queued : src ∈ s.noticeQueue
    · rw [if_pos fresh, queue, if_pos queued, if_neg (fun h => h.1 queued), same]
    · rw [if_pos fresh, queue, if_neg queued, if_pos ⟨queued, fresh⟩]
  · rw [if_neg fresh, if_neg (fun h => fresh h.2), same]

/-- Settles O50: the source and the flags read back, and the two sets are replied as they then stand. -/
theorem noticeMaskAndClearAnswered : Obligations.NoticeMaskAndClearAnswered := by
  intro s tag rest src flags payload n hf
  have fs : namedSource payload = src := namedSource_cons src _
  have ff : flagSetAt payload 1 = flags := flagSetAt_halfBytes _ _
  refine ⟨fun h => ?_, fun h => ?_⟩
  · refine (request_done h rfl rfl (noticeCheck_pass hf)).trans ?_
    rw [fs, ff, maskSource_eq, noticeSets_setQueue, noticeSets_setNoticeSets]
    cases src <;> rfl
  · refine (request_done h rfl rfl (noticeCheck_pass hf)).trans ?_
    rw [fs, ff]
    unfold clearSource
    rw [noticeSets_setNoticeSets]
    cases src <;> rfl

/-! ## The drive ports -/

/-- The station with another partial word on its port. -/
def Station.holdsBytes (x : Station) (l : List Byte) : Station := { x with port := { x.port with partialWord := l } }

theorem receiveDriveByte_eq (s : State) (l : List Byte) (b : Byte) :
    receiveDriveByte p (s.modSt p (fun x => x.holdsBytes l)) b =
      if (l ++ [b]).length < 5 then s.modSt p (fun x => x.holdsBytes (l ++ [b]))
      else takeWord p (l ++ [b]) (s.modSt p (fun x => x.holdsBytes [])) := by
  unfold receiveDriveByte
  simp only [State.modSt_st_self, State.modSt_modSt]; rfl

/-- Five bytes on a port that holds none are a word (R167). -/
theorem receive_word (code a b d check : Byte) (h : (s.st p).port.partialWord = []) :
    [code, a, b, d, check].foldl (receiveDriveByte p) s = takeWord p [code, a, b, d, check] s := by
  have empty : s.modSt p (fun x => x.holdsBytes []) = s := by
    refine (modSt_congr ?_).trans (State.modSt_self s p)
    rw [Station.holdsBytes, ← h]
  calc [code, a, b, d, check].foldl (receiveDriveByte p) s
      = [code, a, b, d, check].foldl (receiveDriveByte p) (s.modSt p (fun x => x.holdsBytes [])) := by rw [empty]
    _ = takeWord p [code, a, b, d, check] (s.modSt p (fun x => x.holdsBytes [])) := by
      simp [receiveDriveByte_eq]
    _ = takeWord p [code, a, b, d, check] s := by rw [empty]

/-- A word that R167 rejects has no effect. -/
theorem takeWord_rejects {code a b d check : Byte}
    (bad : check ≠ crc8 [code, a, b, d] ∨ (code ≠ 0x81 ∧ code ≠ 0x82) ∨
      (code = 0x81 ∧ (1023 < a.toNat + 256 * b.toNat ∨ 1 < d.toNat)) ∨ (code = 0x82 ∧ a &&& 0x70 ≠ 0)) :
    takeWord p [code, a, b, d, check] s = s := by
  show (if check ≠ crc8 [code, a, b, d] then s
    else if code = 0x81 then if a.toNat + 256 * b.toNat ≤ 1023 ∧ d.toNat ≤ 1 then _ else s
    else if code = 0x82 then if a &&& 0x70 = 0 then _ else s else s) = s
  by_cases damaged : check ≠ crc8 [code, a, b, d]
  · exact if_pos damaged
  rw [if_neg damaged]
  obtain bad | ⟨notMark, notDressed⟩ | ⟨mark, fields⟩ | ⟨dressed, fields⟩ := bad
  · exact absurd bad damaged
  · rw [if_neg notMark, if_neg notDressed]
  · rw [if_pos mark]
    exact if_neg (by omega)
  · rw [if_neg (by rw [dressed]; decide), if_pos dressed]
    exact if_neg fields

/-- Settles O52: the words of the port, sent, dropped and rejected. -/
theorem drivePortWords : Obligations.DrivePortWords := by
  intro s p hs
  refine ⟨fun sent rest hq => ?_, congrArg _ (outOfReset_of_not hs), fun code a b d check hp bad => ?_⟩
  · refine congrArg _ ((outOfReset_of_not hs).trans (modSt_congr ?_))
    rw [hq]; rfl
  · show Host.Outcome.next (outOfReset _ s) = _
    rw [outOfReset_of_not hs, receive_word code a b d check hp, takeWord_rejects bad]

end

end Sys2Proof.Machine
end

section
/-! The stop line and ABORT; setting a flag as a change of two notice sets and the queue. -/

namespace Sys2Proof.Machine

/-! ## Setting a flag, as data -/

/-- The two sets of a source with a flag set (R149). -/
def NoticeSets.raised (n : NoticeSets) (flag : FlagSet) : NoticeSets :=
  if n.pending &&& flag ≠ 0 then n else { n with pending := n.pending ||| flag }

/-- The notice queue after a flag of a source is set (R149). -/
def NoticeSets.queuedBy (n : NoticeSets) (src : Source) (flag : FlagSet) (q : List Source) : List Source :=
  if n.pending &&& flag = 0 ∧ n.enabled &&& flag ≠ 0 ∧ src ∉ q then q ++ [src] else q

section
variable {s t u : State} {p : StationId} {tag kind : Byte} {rest : List Entry} {c : Instr}

theorem setFlag_eq (src : Source) (flag : FlagSet) (s : State) :
    setFlag src flag s = (s.setNoticeSets src ((s.noticeSets src).raised flag)).setQueue
      ((s.noticeSets src).queuedBy src flag s.noticeQueue) := by
  have same : ∀ n, (s.setNoticeSets src n).setQueue s.noticeQueue = s.setNoticeSets src n := fun n => by
    cases src <;> rfl
  have kept : s.setNoticeSets src (s.noticeSets src) = s := by
    cases src with
    | station p => exact State.modSt_self s p
    | global => rfl
  unfold NoticeSets.raised NoticeSets.queuedBy
  by_cases hp : (s.noticeSets src).pending &&& flag = 0
  · by_cases he : (s.noticeSets src).enabled &&& flag = 0
    · rw [setFlag_of_disabled hp he, if_neg (not_not.mpr hp), if_neg (fun h => h.2.1 he), same]
    · rw [setFlag_of_enabled hp he, if_neg (not_not.mpr hp)]
      have queue : ∀ n, (s.setNoticeSets src n).noticeQueue = s.noticeQueue := fun n => by simp
      by_cases hq : src ∈ s.noticeQueue
      · rw [queueSource_of_mem ((queue _).symm ▸ hq), if_neg (fun h => h.2.2 hq), same]
      · rw [queueSource_of_not_mem (fun h => hq (queue _ ▸ h)), if_pos ⟨hp, he, hq⟩, queue]
  · rw [setFlag_of_pending hp, if_pos hp, if_neg (fun h => hp h.1), same, kept]

theorem setFlag_global_eq (flag : FlagSet) (s : State) :
    setFlag .global flag s = (s.setGlobal (s.globalNotices.raised flag)).setQueue
      (s.globalNotices.queuedBy .global flag s.noticeQueue) := setFlag_eq .global flag s

theorem setFlag_station_eq (p : StationId) (flag : FlagSet) (s : State) :
    setFlag (.station p) flag s = (s.modSt p (fun x => { x with notices := x.notices.raised flag })).setQueue
      ((s.st p).notices.queuedBy (.station p) flag s.noticeQueue) := setFlag_eq (.station p) flag s

/-- A change of the station that leaves its notices alone, made after a flag of the station is set or before. -/
theorem modSt_setFlag {flag : FlagSet} {g : Station → Station}
    (hg : ∀ (x : Station) (n : NoticeSets), g { x with notices := n } = { g x with notices := n }) (s : State) :
    (setFlag (.station p) flag s).modSt p g = setFlag (.station p) flag (s.modSt p g) := by
  have notices : ∀ x : Station, (g x).notices = x.notices := fun x => by
    have := congrArg Station.notices (hg x x.notices)
    exact this
  rw [setFlag_station_eq, setFlag_station_eq, State.modSt_modSt, State.modSt_st_self, notices]
  show ((s.modSt p _).modSt p g).setQueue _ = _
  rw [State.modSt_modSt]
  exact congrArg (State.setQueue · _) (modSt_congr ((hg _ _).trans (by rw [notices])))

theorem raised_pending (n : NoticeSets) {flag : FlagSet} (h : flag ≠ 0) : (n.raised flag).pending &&& flag ≠ 0 := by
  unfold NoticeSets.raised
  split
  · next hp => exact hp
  · have : (n.pending ||| flag) &&& flag = flag := by
      ext i hi
      simp only [BitVec.getElem_and, BitVec.getElem_or]
      cases n.pending[i] <;> cases flag[i] <;> rfl
    rw [this]; exact h

/-- A flag set twice is set once (R149). -/
theorem setFlag_twice {src : Source} {flag : FlagSet} (h : flag ≠ 0) (s : State) :
    setFlag src flag (setFlag src flag s) = setFlag src flag s := by
  refine setFlag_of_pending ?_
  rw [setFlag_eq, noticeSets_setQueue, noticeSets_setNoticeSets]
  exact raised_pending _ h

/-! ## The stop line -/

theorem working_iff (st : StationState) :
    st.working = true ↔ st ∈ [StationState.spinup, .cutting, .dressing, .waiting, .held] := by
  cases st <;> decide

theorem purgeQueue_eq (q : List DriveCmd) :
    purgeQueue q = match q with
      | [] => []
      | sent :: unsent => sent :: unsent.filter (fun d => decide (d = .lift ∨ d = .spinOff)) := by
  cases q with
  | nil => rfl
  | cons sent unsent => exact purgeQueue_cons sent unsent

/-- Settles O26: the six stations change each by itself. -/
theorem stopLineStopsWorkingStations : Obligations.StopLineStopsWorkingStations := by
  intro s hs
  refine ⟨fun off => ?_, fun on => ?_⟩
  · have each : assertStation = fun q s => s.modSt q Station.lineAsserted :=
      funext fun q => funext fun s => assertStation_eq q s
    refine ⟨forStations assertStation (s.setStopLine true), ?_, ?_, fun p => ?_⟩
    · refine congrArg _ ((outOfReset_of_not hs).trans ?_)
      unfold assertLine; rw [off]; rfl
    · obtain ⟨v, hv⟩ := forStations_modSt_eq Station.lineAsserted (s.setStopLine true)
      rw [each, hv]; rfl
    · rw [forStations_assert]
      show (s.st p).lineAsserted = _
      unfold Station.lineAsserted
      rw [purgeQueue_eq]
      simp only [working_iff]; rfl
  · refine congrArg _ ((outOfReset_of_not hs).trans ?_)
    unfold releaseLine; rw [on]; rfl

/-! ## The release test of both slots -/

/-- A slot is emptied, and strip 0 released with it, or neither (R25). -/
def State.clearIf (s : State) (b : Bool) (i : Fin 2) : State :=
  (s.setSlots (s.slots.set i (if b then Slot.cleared else s.slots[i]))).setReleased
    (s.strip0Released || b && decide (s.slots[i].strip = some 0))

/-- The same for both slots. -/
def State.clearBoth (s : State) (a b : Bool) : State :=
  (s.setSlots ((s.slots.set 0 (if a then Slot.cleared else s.slots[(0 : Fin 2)])).set 1
    (if b then Slot.cleared else s.slots[(1 : Fin 2)]))).setReleased
      (s.strip0Released || a && decide (s.slots[(0 : Fin 2)].strip = some 0) ||
        b && decide (s.slots[(1 : Fin 2)].strip = some 0))

/-- SLOT_FREE is set, or not (R25). -/
def State.flagFree (s : State) (b : Bool) : State := if b then setFlag .global flagSlotFree s else s

theorem clearIf_false (i : Fin 2) (s : State) : s.clearIf false i = s := by
  have slots : s.slots.set i s.slots[i] = s.slots := Vector.set_getElem_self i.isLt
  unfold State.clearIf
  rw [Bool.false_and, Bool.or_false, if_neg Bool.false_ne_true, slots]; rfl

theorem releaseTest_eq (i : Fin 2) (s : State) :
    releaseTest i s = (s.clearIf (s.releasable i) i).flagFree (s.releasable i) := by
  by_cases h : s.releasable i = true
  · rw [releaseTest_of_releasable h, h]; rfl
  · rw [releaseTest_of_not h, Bool.eq_false_iff.mpr h, clearIf_false]; rfl

theorem clearIf_flagFree (a b : Bool) (i : Fin 2) (s : State) :
    (s.flagFree a).clearIf b i = (s.clearIf b i).flagFree a := by
  cases a with
  | false => rfl
  | true =>
    unfold State.flagFree
    rw [if_pos rfl, if_pos rfl, setFlag_global_eq, setFlag_global_eq]; rfl

theorem releasable_flagFree (a : Bool) (i : Fin 2) (s : State) : (s.flagFree a).releasable i = s.releasable i := by
  cases a with
  | false => rfl
  | true =>
    unfold State.flagFree
    rw [if_pos rfl, setFlag_global_eq]; rfl

theorem flagFree_flagFree (a b : Bool) (s : State) : (s.flagFree a).flagFree b = s.flagFree (a || b) := by
  cases b with
  | false => rw [Bool.or_false]; rfl
  | true =>
    cases a with
    | false => rfl
    | true => exact setFlag_twice (by decide) s

theorem releasable_clearIf {i j : Fin 2} (h : i ≠ j) (a : Bool) (s : State) :
    (s.clearIf a i).releasable j = s.releasable j := by
  have kept : (s.clearIf a i).slots[j] = s.slots[j] := by
    obtain ⟨e, _⟩ | e := slots_set_cases s.slots i j (if a then Slot.cleared else s.slots[i])
    · exact absurd e h
    · exact e
  unfold State.releasable
  rw [kept]; rfl

/-- Two release tests one after another: each slot that passes is emptied, and SLOT_FREE is set if one does. -/
theorem releaseTests_eq {i j : Fin 2} (h : i ≠ j) (s : State) :
    releaseTest j (releaseTest i s) =
      ((s.clearIf (s.releasable i) i).clearIf (s.releasable j) j).flagFree (s.releasable i || s.releasable j) := by
  rw [releaseTest_eq j, releaseTest_eq i, releasable_flagFree, releasable_clearIf h, clearIf_flagFree,
    flagFree_flagFree]

theorem setSlots_congr {s : State} {v w : Vector Slot 2} {a b : Bool} (h0 : v[(0 : Fin 2)] = w[(0 : Fin 2)])
    (h1 : v[(1 : Fin 2)] = w[(1 : Fin 2)]) (hb : a = b) :
    (s.setSlots v).setReleased a = (s.setSlots w).setReleased b := by
  have slots : v = w := Vector.ext fun i hi => by
    obtain rfl | rfl : i = 0 ∨ i = 1 := by omega
    · exact h0
    · exact h1
  rw [slots, hb]

theorem clearIf_up (a b : Bool) (s : State) : (s.clearIf a 0).clearIf b 1 = s.clearBoth a b :=
  setSlots_congr (by simp [State.clearIf]) (by simp [State.clearIf]) (by simp [State.clearIf])

theorem clearIf_down (a b : Bool) (s : State) : (s.clearIf b 1).clearIf a 0 = s.clearBoth a b := by
  have kept : (s.clearIf b 1).slots[(0 : Fin 2)] = s.slots[(0 : Fin 2)] := by simp [State.clearIf]
  refine setSlots_congr (by simp [State.clearIf]) (by simp [State.clearIf]) ?_
  rw [kept]
  exact Bool.or_right_comm ..

/-- The order of the two tests makes no difference. -/
theorem releaseBoth_eq (s : State) :
    releaseBoth s = (s.clearBoth (s.releasable 0) (s.releasable 1)).flagFree (s.releasable 0 || s.releasable 1) := by
  have up : releaseTest 1 (releaseTest 0 s) = _ := releaseTests_eq (by decide) s
  have down : releaseTest 0 (releaseTest 1 s) = _ := releaseTests_eq (by decide) s
  rw [clearIf_up] at up
  rw [clearIf_down, Bool.or_comm] at down
  unfold releaseBoth
  split
  · split
    · exact down
    · exact up
  · exact up

/-! ## ABORT -/

theorem setFlag_setList (flag : FlagSet) (s : State) (l : List Entry) :
    setFlag .global flag (s.setList l) = (setFlag .global flag s).setList l := by
  rw [setFlag_global_eq, setFlag_global_eq]; rfl

theorem flagFree_setList (a : Bool) (s : State) (l : List Entry) :
    (s.setList l).flagFree a = (s.flagFree a).setList l := by
  cases a with
  | false => rfl
  | true => exact setFlag_setList _ s l

theorem flagFree_view (a : Bool) (s : State) (q : StationId) : ((s.flagFree a).st q).view = (s.st q).view := by
  cases a with
  | false => rfl
  | true => exact setFlag_view ..

theorem flagFree_setup (a : Bool) (s : State) : (s.flagFree a).setup = s.setup := by
  cases a with
  | false => rfl
  | true => exact setFlag_setup ..

theorem flagFree_members (a : Bool) (s : State) : (s.flagFree a).members = s.members := by
  cases a with
  | false => rfl
  | true => exact setFlag_members ..

theorem endTest_eq (s : State) :
    endTest s =
      if s.setup = .active ∧ s.members ≠ [] ∧ ∀ q ∈ s.members, (s.st q).state = .done
      then setFlag .global 0x2 (s.setSetup .ended) else s := by
  unfold endTest State.allDone
  simp only [List.all_eq_true, decide_eq_true_eq]; rfl

/-- What a control request replies of its station after a flag is set, which changes no station but its notices. -/
theorem controlData_setFlag (src : Source) (flag : FlagSet) (s : State) :
    controlData p (setFlag src flag s) = controlData p s := by
  obtain ⟨n, h⟩ := setFlag_st src flag s p
  unfold controlData
  rw [h]

theorem controlData_flagFree (a : Bool) (s : State) : controlData p (s.flagFree a) = controlData p s := by
  cases a with
  | false => rfl
  | true => exact controlData_setFlag ..

/-- A control request with an effect beside its station. -/
theorem control_leads {check : List Byte → State → Option Answer} {op : StationId → State → State} {data : List Byte}
    (h : s.handles ⟨kind, tag, stationPayload p⟩ rest)
    (he : exec c s = .next (handleRequest kind (fun payload u =>
      refusedOr (check payload u) (controlled (namedStation payload) (op (namedStation payload) u)) u) s))
    (hn : check (stationPayload p) (s.setList rest) = none) (hu : op p (s.setList rest) = t.setList rest)
    (hd : controlData p t = data) :
    exec c s = .next (transmit (t.answered ⟨kind, tag, stationPayload p⟩ rest 0x00 data)) := by
  refine (control_done h he hn hu).trans ?_
  rw [← hd]; rfl

/-- A member's ABORT leaves it to the buffer and the Setup Table once the station is off and out of the set. -/
theorem abortStation_member (h : p ∈ s.members) :
    abortStation p s = bufferAbort p ((closeStation p s).setMembers (leaveSet p s.members)) := if_pos h

theorem leaveSlots_slots (p : StationId) (s : State) (i : Fin 2) :
    (leaveSlots p s).slots[i] = { s.slots[i] with finished := leaveSet p s.slots[i].finished } := by
  obtain rfl | rfl : i = 0 ∨ i = 1 := by omega
  · simp [leaveSlots]
  · simp [leaveSlots]

theorem mem_leaveSet {q : StationId} {l : List StationId} : q ∈ leaveSet p l ↔ q ∈ l ∧ q ≠ p := by
  simp [leaveSet]

/-- Settles O25: the station is shut off; then the last member empties the slots, or the release and the end test
follow. -/
theorem abortShutsStationOff : Obligations.AbortShutsStationOff := by
  intro s tag rest p f off left frees slot told freed h hx
  have checks : checkNamed 1 (fun st => decide (st ≠ .off)) (stationPayload p) (s.setList rest) = none := by
    rw [checkNamed_stationPayload]; exact checkThat_of (decide_eq_true hx)
  have shut : closeStation p (s.setList rest) = off.setList rest := by rw [closeStation_eq]; rfl
  have tells : p ∈ s.members →
      abortStation p (s.setList rest) = bufferAbort p ((off.setMembers left).setList rest) := fun mem => by
    rw [abortStation_member (s := s.setList rest) mem, shut]; rfl
  have offData : controlData p off = [0, 0, 0] := by
    unfold controlData
    rw [State.modSt_st_self]; rfl
  refine ⟨fun out => control_leads h rfl checks ((if_neg out).trans shut) offData, fun mem last => ?_,
    fun mem more => ?_⟩
  · intro empty
    have emptied : (leaveSlots p ((off.setMembers left).setList rest)).emptySlots = empty.setList rest := by
      rw [last]; rfl
    refine control_leads h rfl checks ((tells mem).trans ?_) ?_
    · rw [bufferAbort_eq, emptied]
      refine (if_pos last).trans ?_
      show (if s.setup = .active then _ else _) = _
      split
      · exact setFlag_setList 0x2 (empty.setSetup .ended) rest
      · rfl
    · split
      · exact (controlData_setFlag ..).trans offData
      · exact offData
  · let t := leaveSlots p ((off.setMembers left).setList rest)
    have finished : ∀ i : Fin 2, t.slots[i] = { s.slots[i] with finished := leaveSet p s.slots[i].finished } :=
      leaveSlots_slots p _
    have releasable : ∀ i : Fin 2, t.releasable i = frees i := fun i => by
      rw [Bool.eq_iff_iff, releasable_iff, decide_eq_true_iff, finished]
      refine and_congr_right fun _ => and_congr_right fun _ => ?_
      refine (and_iff_right more).trans (forall₂_congr fun q hq => ?_)
      exact mem_leaveSet.trans (and_iff_left (mem_leaveSet.mp hq).2)
    have slots : ∀ i : Fin 2, slot i = if frees i then Slot.cleared else t.slots[i] := fun i => by rw [finished]; rfl
    have cleared : t.clearBoth (frees 0) (frees 1) = told.setList rest := by
      refine setSlots_congr ?_ ?_ ?_
      · rw [slots, slots]; simp
      · rw [slots, slots]; simp
      · rw [finished, finished]; rfl
    have stays : ∀ q ∈ left, (freed.st q).state = (s.st q).state := fun q hq => by
      refine (state_of_view (flagFree_view (frees 0 || frees 1) told q)).trans ?_
      show (off.st q).state = _
      exact congrArg Station.state (State.modSt_st_ne s _ (mem_leaveSet.mp hq).2.symm)
    have ends : endTest (freed.setList rest) =
        (if s.setup = .active ∧ ∀ q ∈ left, (s.st q).state = .done then setFlag .global 0x2 (freed.setSetup .ended)
          else freed).setList rest := by
      have setup : (freed.setList rest).setup = s.setup := flagFree_setup (frees 0 || frees 1) told
      have members : (freed.setList rest).members = left := flagFree_members (frees 0 || frees 1) told
      rw [endTest_eq, setup, members]
      by_cases all : s.setup = .active ∧ ∀ q ∈ left, (s.st q).state = .done
      · rw [if_pos all, if_pos ⟨all.1, more, fun q hq => (stays q hq).trans (all.2 q hq)⟩]
        exact setFlag_setList 0x2 (freed.setSetup .ended) rest
      · rw [if_neg all, if_neg fun h => all ⟨h.1, fun q hq => (stays q hq).symm.trans (h.2.2 q hq)⟩]
    refine control_leads h rfl checks ((tells mem).trans ?_) ?_
    · rw [bufferAbort_eq]
      refine (if_neg more).trans ?_
      rw [releaseBoth_eq, releasable, releasable, cleared, flagFree_setList]
      exact ends
    · have data : controlData p freed = [0, 0, 0] :=
        (controlData_flagFree (frees 0 || frees 1) told).trans offData
      split
      · exact (controlData_setFlag ..).trans data
      · exact data

end

end Sys2Proof.Machine
end

section
/-! Cell timing: marks, STEP and the expiries of the timers. -/

namespace Sys2Proof.Machine

section
variable {s t u : State} {p : StationId} {pl : Plan}

/-! ## Timers -/

/-- The expiry of a timer that is due (R14). -/
theorem atExpiry_due {timer : Option Nat} {effect : State → State} {d : Nat} (hs : s.inReset = false)
    (ht : timer = some d) (hd : d ≤ s.tick) : atExpiry timer effect s = effect s := by
  subst ht
  exact if_neg (by simp [hs, hd])

/-- The expiry of a timer that is stopped, or runs to a later boundary, is none (R14). -/
theorem atExpiry_not_due {timer : Option Nat} {effect : State → State} (h : ∀ d, timer = some d → s.tick < d) :
    atExpiry timer effect s = s := by
  cases timer with
  | none => rfl
  | some d => exact if_pos (.inr (h d rfl))

theorem inCutting_of {effect : State → State} (h : (s.st p).state = .cutting) : inCutting p effect s = effect s :=
  if_pos h

/-- An expiry that is none changes nothing, in CUTTING or out of it. -/
theorem inCutting_not_due {timer : Option Nat} {effect : State → State} (h : ∀ d, timer = some d → s.tick < d) :
    inCutting p (atExpiry timer effect) s = s := by
  unfold inCutting
  rw [atExpiry_not_due h, ite_self]

/-- The pending setpoint goes out with PLUNGE (R83). -/
theorem leadExpires_of_pending {setpoint : Nat} (hp : (s.st p).plan = some pl)
    (h : pl.pendingSetpoint = some setpoint) : leadExpires p s = s.modSt p (fun x =>
      { x.sends (.plunge setpoint) with
        timers := { x.timers with lead := none }, plan := some { pl with pendingSetpoint := none } }) := by
  unfold leadExpires
  simp only [hp, Option.bind_some, h, issue, State.modSt_modSt]
  refine modSt_congr ?_
  rw [hp]; rfl

/-- Settles O40: an expiry that is due has its effect, and any other is none. -/
theorem leadAndBlankTimersExpire : Obligations.LeadAndBlankTimersExpire := by
  refine ⟨fun _ _ => rfl, fun s p hs hx => ⟨fun pl setpoint d ht hd hp hq => ?_, fun d ht hd => ?_, fun h => ?_,
    fun h => ?_⟩⟩
  · exact congrArg _ ((inCutting_of hx).trans ((atExpiry_due hs ht hd).trans (leadExpires_of_pending hp hq)))
  · exact congrArg _ ((inCutting_of hx).trans (atExpiry_due hs ht hd))
  · exact congrArg _ (inCutting_not_due h)
  · exact congrArg _ (inCutting_not_due h)

/-- A stalled station, with the flag of the cause (R101, R134). -/
theorem stallStation_eq (p : StationId) (flag : FlagSet) (s : State) :
    stallStation p flag s = setFlag (.station p) flag (s.modSt p (fun x =>
      { (x.sends .lift).sends .spinOff with
        state := .stalled, holdPending := false, parkPending := false, plan := none, captureRef := none
        timers := ⟨none, none, none, none, none, none⟩, dress := { x.dress with inFlight := none } })) := by
  simp only [stallStation, issueLiftOff, issue, State.modSt_modSt]; rfl

theorem earlierLead_of_stopped (h : (s.st p).timers.lead = none) : earlierLead p s = s := by
  unfold earlierLead; rw [h]

/-- The miss timer awaits a mark of the run (R92, R93). -/
theorem missExpires_eq (hl : (s.st p).timers.lead = none) (hp : (s.st p).plan = some pl) (h1 : 1 ≤ pl.next)
    (hn : pl.next ≤ pl.rows) :
    missExpires p s =
      if (s.st p).counts.forcedRun < (s.st p).cfg.forcedLimit then forceAdvance p pl s
      else stallStation p flagStalled s := by
  unfold missExpires
  rw [earlierLead_of_stopped hl]
  simp only [hp]
  exact if_neg (by omega)

/-- Settles O42: the three timeouts differ in the flag alone. -/
theorem timeoutsStallTheStation : Obligations.TimeoutsStallTheStation := by
  intro s p hs stalled
  have stall : ∀ flag, transmit (stallStation p flag s) = stalled flag := fun flag =>
    congrArg transmit (stallStation_eq p flag s)
  refine ⟨fun d hx ht hd => ?_, fun pl d hx ht hd hl hp h1 hn limit => ?_, fun d hx ht hd => ?_, fun h => ?_,
    fun h => ?_⟩
  · exact congrArg _ ((inCutting_of hx).trans ((atExpiry_due hs ht hd).trans (stall 0x008)))
  · refine congrArg _ ((inCutting_of hx).trans ((atExpiry_due hs ht hd).trans ?_))
    rw [missExpires_eq hl hp h1 hn, if_neg (by omega)]
    exact stall 0x008
  · exact congrArg _ ((if_pos hx).trans ((atExpiry_due hs ht hd).trans (stall 0x100)))
  · exact congrArg _ (inCutting_not_due h)
  · show Host.Outcome.next (if (s.st p).state = .dressing then atExpiry _ _ s else s) = _
    rw [atExpiry_not_due h, ite_self]

/-! ## Entering a cell -/

theorem plungeAtMark_atMark (h : (s.st p).cfg.trigger = .atMark) (pl : Plan) (j : Nat) :
    plungeAtMark p pl j s = s.modSt p (fun x => x.sends (.plunge (pl.cell j).setpoint)) := by
  unfold plungeAtMark; rw [h]; rfl

theorem plungeAtMark_step (h : (s.st p).cfg.trigger = .step) (pl : Plan) (j : Nat) :
    plungeAtMark p pl j s = s.modSt p (fun x => x.sends (.plunge (pl.cell j).setpoint)) := by
  unfold plungeAtMark; rw [h]; rfl

theorem plungeAtMark_lead (h : (s.st p).cfg.trigger = .lead) (pl : Plan) (j : Nat) :
    plungeAtMark p pl j s = startLead p pl j (latePlunge p s) := by
  unfold plungeAtMark; rw [h]

theorem plungeAtForced_atMark (h : (s.st p).cfg.trigger = .atMark) (pl : Plan) (j : Nat) :
    plungeAtForced p pl j s = s.modSt p (fun x => x.sends (.plunge (pl.cell j).setpoint)) := by
  unfold plungeAtForced; rw [h]; rfl

theorem latePlunge_of_none {q : Plan} (hp : (s.st p).plan = some q) (h : q.pendingSetpoint = none) :
    latePlunge p s = s := by
  unfold latePlunge
  simp only [hp, Option.bind_some, h]

/-- A setpoint still pending is sent late (R84). -/
theorem latePlunge_of_pending {q : Plan} {setpoint : Nat} (hp : (s.st p).plan = some q)
    (h : q.pendingSetpoint = some setpoint) :
    latePlunge p s = setFlag (.station p) flagLate (s.modSt p (fun x =>
      { x.sends (.plunge setpoint) with
        timers := { x.timers with lead := none }, plan := some { q with pendingSetpoint := none }
        counts := { x.counts with late := satUp x.counts.late } })) := by
  unfold latePlunge
  simp only [hp, Option.bind_some, h, issue, State.modSt_modSt]
  refine congrArg _ (modSt_congr ?_)
  rw [hp]; rfl

theorem startLead_last {j : Nat} (h : pl.rows ≤ j + 1) : startLead p pl j s = s := if_neg (by omega)

/-- The lead for the next cell starts with a delay above 0 (R83). -/
theorem startLead_delayed {j : Nat} {q : Plan} (h : j + 1 < pl.rows) (hp : (s.st p).plan = some q)
    (hd : (s.st p).leadDelay ≠ 0) :
    startLead p pl j s = s.modSt p (fun x =>
      { x with
        timers := { x.timers with lead := startTimer s.tick x.leadDelay }
        plan := some { q with pendingSetpoint := some (pl.cell (j + 1)).setpoint } }) := by
  unfold startLead; dsimp only
  rw [if_pos h, if_neg hd]
  refine modSt_congr ?_
  rw [hp]; rfl

/-! ## MARK -/

/-- A MARK word with a load in range, and with or without a valid one (R70, R167). -/
theorem exec_mark {load : BitVec 16} (valid : Bool) (hs : s.inReset = false) (hl : load.toNat ≤ 1023) :
    exec (.mark p load valid) s = .next (takeMark p (if valid then some load.toNat else none)
      (s.modSt p (fun x => x.holdsBytes []))) := by
  refine congrArg _ ((outOfReset_of_not hs).trans ?_)
  exact if_pos hl

theorem takeMark_ignored {load : Option Nat} (h : (s.st p).state ≠ .cutting ∨ (s.st p).cfg.trigger = .step) :
    takeMark p load s = s := if_pos h

theorem takeMark_blank {load : Option Nat} (hx : (s.st p).state = .cutting) (ht : (s.st p).cfg.trigger ≠ .step)
    (hb : (s.st p).timers.blank.isSome = true) : takeMark p load s = countChatter p s := by
  unfold takeMark; dsimp only
  rw [if_neg (by simp [hx, ht]), if_pos hb]

theorem takeMark_accepted {load : Option Nat} (hx : (s.st p).state = .cutting) (ht : (s.st p).cfg.trigger ≠ .step)
    (hb : (s.st p).timers.blank = none) (hp : (s.st p).plan = some pl) (hn : pl.next ≤ pl.rows) :
    takeMark p load s = transmit (acceptMark p pl load s) := by
  unfold takeMark; dsimp only
  rw [if_neg (by simp [hx, ht]), hb, hp]
  exact if_pos hn

/-- Settles O38: the first two branches of a mark. -/
theorem markIgnoredOrChatter : Obligations.MarkIgnoredOrChatter := by
  intro s p load valid hs hl
  have st : (s.modSt p (fun x => x.holdsBytes [])).st p = (s.st p).holdsBytes [] := State.modSt_st_self ..
  refine ⟨fun h => ?_, fun hx ht hb => ?_⟩
  · rw [exec_mark valid hs hl, takeMark_ignored (by rw [st]; exact h)]; rfl
  · rw [exec_mark valid hs hl, takeMark_blank (by rw [st]; exact hx) (by rw [st]; exact ht)
      (by rw [st]; exact Option.isSome_iff_ne_none.mpr hb)]
    refine congrArg _ ?_
    unfold countChatter
    rw [State.modSt_modSt]; rfl

theorem capture_zero (x : Station) (now : Nat) : x.capture now 0 = x := by
  unfold Station.capture
  split
  · rfl
  · rfl

/-- Mark 0 enters the first cell (R79). -/
theorem acceptMark_first {load : Option Nat} (h0 : pl.next = 0) (h1 : 1 ≤ pl.rows) :
    acceptMark p pl load s = plungeAtMark p pl 0
      (s.modSt p (fun x => { x with plan := some { pl with next := 1 } }.markTimers s.tick true)) := by
  unfold acceptMark markExit; dsimp only
  rw [h0, if_pos rfl, if_pos (by omega)]
  simp only [capture_zero, State.modSt_modSt]
  rfl

/-- Settles O36: mark 0 is accepted, and the trigger mode says what is plunged. -/
theorem markEntersFirstCell : Obligations.MarkEntersFirstCell := by
  intro s p load valid pl hs hl hx hb hp h0 h1
  have st : (s.modSt p (fun x => x.holdsBytes [])).st p = (s.st p).holdsBytes [] := State.modSt_st_self ..
  have accepted : (s.st p).cfg.trigger ≠ .step →
      exec (.mark p load valid) s = .next (transmit (plungeAtMark p pl 0 (s.modSt p (fun x =>
        { x.holdsBytes [] with plan := some { pl with next := 1 } }.markTimers s.tick true)))) := fun ht => by
    rw [exec_mark valid hs hl, takeMark_accepted (by rw [st]; exact hx) (by rw [st]; exact ht)
      (by rw [st]; exact hb) (by rw [st]; exact hp) (by omega), acceptMark_first h0 h1, State.modSt_modSt]
    rfl
  refine ⟨fun ht => ?_, fun ht hq h2 hd => ?_⟩
  · rw [accepted (by rw [ht]; decide), plungeAtMark_atMark (by rw [State.modSt_st_self]; exact ht), State.modSt_modSt]
    rfl
  · rw [accepted (by rw [ht]; decide), plungeAtMark_lead (by rw [State.modSt_st_self]; exact ht),
      latePlunge_of_none (q := { pl with next := 1 }) (by rw [State.modSt_st_self]; rfl) hq,
      startLead_delayed h2 (by rw [State.modSt_st_self]; rfl) (by rw [State.modSt_st_self]; exact hd),
      State.modSt_modSt]
    rfl

/-- The station that mark j ≥ 1 without a valid load has taken out of cell j-1 (R53, R75, R79). -/
def Station.leavesCell (x : Station) (pl : Plan) (now : Nat) (awaits : Bool) : Station :=
  { (x.capture now pl.next).exitCell pl (pl.next - 1) with prevResidual := none }.markTimers now awaits

theorem markExit_later {j : Nat} {load : Option Nat} (h1 : 1 ≤ j) :
    markExit p pl j load s = recordExit p pl (j - 1) load s := if_neg (by omega)

/-- Mark j ≥ 1 without a valid load enters the next cell or ends the run (R79, R88). -/
theorem acceptMark_leaves (h1 : 1 ≤ pl.next) :
    acceptMark p pl none s =
      if pl.next < pl.rows then plungeAtMark p pl pl.next (s.modSt p (fun x => x.leavesCell pl s.tick true))
      else endRun p pl (s.modSt p (fun x => x.leavesCell pl s.tick false)) := by
  unfold acceptMark; dsimp only
  rw [markExit_later h1, recordExit_none]
  simp only [State.modSt_modSt]
  rfl

/-- A cut cell left with a capture reference, field by field. -/
theorem leavesCell_eq {x : Station} {w : Work} {t0 now : Nat} {awaits : Bool} (hw : x.work = some w)
    (hc : x.captureRef = some t0) (h1 : 1 ≤ pl.next) (cut : (pl.cell (pl.next - 1)).cut = true) :
    x.leavesCell pl now awaits =
      let y : Station := { x with captures := pushCapture (now - t0) x.captures }
      { y with
        prevResidual := none, dress := x.dress.countCut
        work := some { w with
          stock := w.stock.set (pl.next - 1)
            ((w.stock.getD (pl.next - 1) []).set pl.column (pl.cell (pl.next - 1)).depth) }
        plan := some { pl with next := pl.next + 1 }, captureRef := some now
        counts := { x.counts with forcedRun := 0 }
        timers := { x.timers with
          approach := none
          blank := startTimer now (y.period * x.cfg.blank / 128)
          miss := if awaits then startTimer now (y.period * x.cfg.miss / 64) else none } } := by
  have index : pl.next - 1 + 2 = pl.next + 1 := by omega
  have captured : x.capture now pl.next = { x with captures := pushCapture (now - t0) x.captures } := by
    unfold Station.capture
    rw [hc]
    exact if_neg (by omega)
  unfold Station.leavesCell Station.exitCell
  rw [captured]
  simp only [cut, if_true, hw, index]
  rfl

/-- The station whose run has ended: LIFT, the short count added, the column advanced (R88, R58). -/
def Station.closesRun (x : Station) (pl : Plan) : Station :=
  { x.sends .lift with
    plan := none
    work := x.work.map (fun w => { w with remaining := w.remaining + pl.shortCount, column := w.column + 1 }) }

theorem closeRun_eq (p : StationId) (pl : Plan) (s : State) :
    closeRun p pl s = s.modSt p (fun x => x.closesRun pl) := by
  simp only [closeRun, issue, State.modSt_modSt]; rfl

/-- The run ends with a park pending (R88, R117). -/
theorem endRun_parks (h : (s.st p).parkPending = true) : endRun p pl s = s.modSt p (fun x =>
    { ((x.closesRun pl).sends .spinOff).outOfRun with
      state := .parked, parkPending := false, holdPending := false }) := by
  unfold endRun; dsimp only
  rw [closeRun_eq, takePark_eq, State.modSt_modSt]
  exact if_pos (by rw [State.modSt_st_self]; exact h)

theorem endRun_goes_on (h : (s.st p).parkPending = false) :
    endRun p pl s = owedThenOn p .runEnd (s.modSt p (fun x => x.closesRun pl)) := by
  unfold endRun; dsimp only
  rw [closeRun_eq]
  exact if_neg (by rw [State.modSt_st_self]; exact ne_true_of_eq_false h)

/-- Settles O37: the cell is left; then a plunge, a late plunge, or the end of the run. -/
theorem markLeavesCutCell : Obligations.MarkLeavesCutCell := by
  intro s p load pl w t0 j e y stock hs hl hx hb hp hw hc h1 cut
  have st : (s.modSt p (fun x => x.holdsBytes [])).st p = (s.st p).holdsBytes [] := State.modSt_st_self ..
  have left : ∀ awaits, ((s.st p).holdsBytes []).leavesCell pl s.tick awaits = _ := fun awaits =>
    leavesCell_eq (x := (s.st p).holdsBytes []) (awaits := awaits) (now := s.tick) hw hc h1 cut
  have accepted : (s.st p).cfg.trigger ≠ .step → j ≤ pl.rows →
      exec (.mark p load false) s = .next (transmit (
        if j < pl.rows then
          plungeAtMark p pl j (s.modSt p (fun x => (x.holdsBytes []).leavesCell pl s.tick true))
        else endRun p pl (s.modSt p (fun x => (x.holdsBytes []).leavesCell pl s.tick false)))) := fun ht hn => by
    rw [exec_mark false hs hl]
    refine congrArg _ ((takeMark_accepted (by rw [st]; exact hx) (by rw [st]; exact ht) (by rw [st]; exact hb)
      (by rw [st]; exact hp) hn).trans (congrArg transmit ((acceptMark_leaves h1).trans ?_)))
    simp only [State.modSt_modSt]; rfl
  refine ⟨fun ht hn => ?_, fun setpoint ht hn hq => ?_, fun ht hn park => ?_, fun ht hn park => ?_⟩
  · rw [accepted (by rw [ht]; decide) hn.le, if_pos hn,
      plungeAtMark_atMark (by rw [State.modSt_st_self, left]; exact ht), State.modSt_modSt]
    refine congrArg _ (congrArg transmit (modSt_congr ?_))
    rw [left]; rfl
  · rw [accepted (by rw [ht]; decide) (by omega), if_pos (by omega),
      plungeAtMark_lead (by rw [State.modSt_st_self, left]; exact ht),
      latePlunge_of_pending (q := { pl with next := j + 1 }) (by rw [State.modSt_st_self, left]) hq,
      startLead_last hn.ge, State.modSt_modSt]
    refine congrArg _ (congrArg transmit (congrArg (setFlag _ _) (modSt_congr ?_)))
    rw [left]; rfl
  · rw [accepted ht hn.le, if_neg (by omega)]
    rw [endRun_parks (by rw [State.modSt_st_self, left]; exact park), State.modSt_modSt]
    refine congrArg _ (congrArg transmit (modSt_congr ?_))
    rw [left]
    simp only [Station.closesRun, Station.outOfRun, Station.sends, Station.holdsBytes]
    rfl
  · rw [accepted ht hn.le, if_neg (by omega)]
    rw [endRun_goes_on (by rw [State.modSt_st_self, left]; exact park), State.modSt_modSt]
    refine congrArg _ (congrArg transmit (congrArg (owedThenOn p .runEnd) (modSt_congr ?_)))
    rw [left]
    simp only [Station.closesRun, Station.sends, Station.holdsBytes]
    rfl

/-! ## STEP -/

/-- The station that a STEP has taken into the cell of the next-cell index (R86). -/
def Station.stepsInto (x : Station) (pl : Plan) : Station :=
  let e := pl.cell (pl.next - 1)
  let leaves := decide (1 ≤ pl.next)
  { x.sends (.plunge (pl.cell pl.next).setpoint) with
    plan := some { pl with next := pl.next + 1 }
    prevResidual := if leaves then none else x.prevResidual
    dress := if leaves && e.cut then x.dress.countCut else x.dress
    work := if leaves && e.cut then x.work.map (fun w =>
        { w with stock := w.stock.set (pl.next - 1) ((w.stock.getD (pl.next - 1) []).set pl.column e.depth) })
      else x.work
    counts := { x.counts with forcedRun := 0 } }

theorem stepRun_eq (ht : (s.st p).cfg.trigger = .step) (hp : (s.st p).plan = some pl) (hn : pl.next < pl.rows) :
    stepRun p s = s.modSt p (fun x => x.stepsInto pl) := by
  unfold stepRun
  rw [hp]; dsimp only
  rw [if_pos hn.le, if_pos hn]
  obtain h0 | h1 := Nat.eq_zero_or_pos pl.next
  · have exit : markExit p pl pl.next none s =
        (s.modSt p (fun x => { x with plan := some { pl with next := 1 } }), false) := if_pos h0
    rw [exit, plungeAtMark_step (by rw [State.modSt_st_self, State.modSt_st_self]; exact ht), State.modSt_modSt,
      State.modSt_modSt]
    unfold Station.stepsInto
    rw [h0]; rfl
  · have index : pl.next - 1 + 2 = pl.next + 1 := by omega
    rw [markExit_later h1, recordExit_none,
      plungeAtMark_step (by rw [State.modSt_st_self, State.modSt_st_self]; exact ht), State.modSt_modSt,
      State.modSt_modSt]
    refine modSt_congr ?_
    unfold Station.stepsInto Station.exitCell
    rw [index]
    simp only [decide_eq_true (show 1 ≤ pl.next from h1), Bool.true_and, if_true]
    rfl

/-- Settles O39: the trigger mode is the last check. -/
theorem stepEntersNextCell : Obligations.StepEntersNextCell := by
  intro s tag rest p pl f h hx
  have checks : stepCheck (stationPayload p) (s.setList rest) =
      checkThat (decide ((s.st p).cfg.trigger = .step)) (.refuse .wrongState) := by
    unfold stepCheck
    rw [checkNamed_stationPayload, State.setList_st, checkThat_of (decide_eq_true hx), Option.none_or,
      namedStation_cons]; rfl
  refine ⟨fun ht => ?_, fun ht hp hn => ?_⟩
  · exact request_refused (a := .refuse .wrongState) h rfl rfl (checks.trans (checkThat_of_not (decide_eq_false ht)))
  · exact control_changes (c := .stepCell) h rfl (checks.trans (checkThat_of (decide_eq_true ht)))
      (stepRun_eq (s := s.setList rest) ht hp hn)
      (congrArg (fun x => [StationState.code x, flagByte (s.st p).holdPending, flagByte (s.st p).parkPending]) hx)

/-! ## The miss timer -/

/-- The station that a forced advance or a forced exit has taken out of cell j-1 (R94, R96). -/
def Station.forcedOut (x : Station) (pl : Plan) (now : Nat) : Station :=
  let y : Station := { { x with captureRef := none }.exitCell pl (pl.next - 1) with prevResidual := none }
  { y with counts := { y.counts with
      forcedRun := y.counts.forcedRun + 1, forcedTotal := satUp y.counts.forcedTotal } }.restartTimers now
        (decide (pl.next < pl.rows))

theorem forceExit_eq (p : StationId) (pl : Plan) (s : State) :
    forceExit p pl s = setFlag (.station p) flagMissed (s.modSt p (fun x => x.forcedOut pl s.tick)) := by
  unfold forceExit; dsimp only
  rw [recordExit_none]
  simp only [State.modSt_modSt]
  exact modSt_setFlag (g := fun x => x.restartTimers s.tick _) (fun _ _ => rfl) _ |>.trans
    (congrArg _ (State.modSt_modSt ..))

theorem setFlag_cfg (src : Source) (flag : FlagSet) (s : State) (q : StationId) :
    ((setFlag src flag s).st q).cfg = (s.st q).cfg := by
  obtain ⟨n, h⟩ := setFlag_st src flag s q
  rw [h]; rfl

/-- A forced advance into the next cell in AT_MARK mode (R94, R95). -/
theorem forceAdvance_atMark (ht : (s.st p).cfg.trigger = .atMark) (hn : pl.next < pl.rows) :
    forceAdvance p pl s = setFlag (.station p) flagMissed (s.modSt p (fun x =>
      (x.forcedOut pl s.tick).sends (.plunge (pl.cell pl.next).setpoint))) := by
  unfold forceAdvance
  rw [if_pos hn, forceExit_eq,
    plungeAtForced_atMark (by rw [setFlag_cfg, State.modSt_st_self]; exact ht),
    modSt_setFlag (fun _ _ => rfl), State.modSt_modSt]

/-! ## The miss timer after a mark (R98) -/

theorem setFlag_timers (src : Source) (flag : FlagSet) (s : State) (q : StationId) :
    ((setFlag src flag s).st q).timers = (s.st q).timers := by
  obtain ⟨n, h⟩ := setFlag_st src flag s q
  rw [h]

theorem endTest_st (s : State) (q : StationId) : (endTest s).st q = s.st q := by
  unfold endTest endSetup; split
  · rw [setFlag_global_eq]; rfl
  · rfl

theorem releaseTest_st (i : Fin 2) (s : State) (q : StationId) : (releaseTest i s).st q = s.st q := by
  unfold releaseTest releaseSlot; split
  · rw [setFlag_global_eq]; rfl
  · rfl

theorem stripDoneEvent_st (p : StationId) (k : Nat) (s : State) (q : StationId) :
    (stripDoneEvent p k s).st q = s.st q := releaseTest_st ..

theorem finishStrip_miss (h : (s.st p).timers.miss = none) : ((finishStrip p s).st p).timers.miss = none := by
  have left : ((leaveStrip p s).st p).timers.miss = none := by
    unfold leaveStrip
    rw [State.modSt_st_self, setFlag_timers, stripDoneEvent_st, State.modSt_st_self]; exact h
  rw [finishStrip_eq]
  split
  · exact left
  · rw [endTest_st, enterDone, setFlag_timers, State.modSt_st_self]; rfl

/-- Going on never starts the miss timer: a run starts with the approach timer alone (R87, R92). -/
theorem carryOn_miss (fuel : Nat) (h : (s.st p).timers.miss = none) : ((carryOn fuel p s).st p).timers.miss = none := by
  refine carryOn_induction p (fun u => (u.st p).timers.miss = none) ?takeUp ?wait ?skip ?run ?tell ?pass ?owed ?finish
    fuel s h
  case takeUp => intro u _ _ h; simpa [takeUp] using h
  case wait => intro u _ _ _; simp [enterWaiting, Timers.stopCell]
  case skip => intro u w _ _ _ h; simpa [skipRun, countClamped] using h
  case run => intro u w _ _ _ _; simp [startRun]
  case tell => intro u w hw _ h; simpa [tellPassEnd, hw] using h
  case pass => intro u phase h; simpa [newPass] using h
  case owed => intro u _ _; simp [startOwed, startDressing, Timers.stopped]
  case finish => intro u _ h; exact finishStrip_miss h

theorem endRun_miss (h : (s.st p).timers.miss = none) : ((endRun p pl s).st p).timers.miss = none := by
  cases park : (s.st p).parkPending with
  | true => rw [endRun_parks park, State.modSt_st_self]; rfl
  | false =>
    rw [endRun_goes_on park]
    unfold owedThenOn
    split
    · simp [startOwed, startDressing, Timers.stopped]
    · exact carryOn_miss _ (by rw [State.modSt_st_self]; exact h)

theorem enterHeld_miss (b : Bool) : ((enterHeld p b s).st p).timers.miss = none := by
  cases park : (s.st p).parkPending with
  | true => rw [enterHeld_of_park park, State.modSt_st_self]; rfl
  | false => rw [enterHeld_of_no_park park, State.modSt_st_self]; rfl

theorem latePlunge_miss : ((latePlunge p s).st p).timers.miss = (s.st p).timers.miss := by
  unfold latePlunge; split
  · rfl
  · rw [setFlag_timers]; simp

theorem startLead_miss {j : Nat} : ((startLead p pl j s).st p).timers.miss = (s.st p).timers.miss := by
  unfold startLead; dsimp only
  split
  · split
    · simp
    · simp
  · rfl

theorem plungeAtMark_miss {j : Nat} : ((plungeAtMark p pl j s).st p).timers.miss = (s.st p).timers.miss := by
  unfold plungeAtMark; split
  · simp
  · rw [startLead_miss, latePlunge_miss]
  · simp

/-- An accepted mark leaves the miss timer stopped, or restarted at this tick (R79, R98). -/
theorem acceptMark_miss (load : Option Nat) :
    ((acceptMark p pl load s).st p).timers.miss = none ∨
      ∃ duration, ((acceptMark p pl load s).st p).timers.miss = startTimer s.tick duration := by
  unfold acceptMark; dsimp only
  split
  · split
    · exact .inl (enterHeld_miss _)
    · exact .inr ⟨_, plungeAtMark_miss.trans (congrArg (fun x => x.timers.miss) (State.modSt_st_self ..))⟩
  · split
    · exact .inl (enterHeld_miss _)
    · exact .inl (endRun_miss (by rw [State.modSt_st_self]; rfl))

/-- Settles O41: a forced advance, and no expiry behind an accepted mark. -/
theorem missForcesAdvance : Obligations.MissForcesAdvance := by
  intro s p pl j e hs hx hp
  refine ⟨fun d hm hd hl ht h1 hn limit => ?_, fun h => congrArg _ (inCutting_not_due h), ?_⟩
  · show Host.Outcome.next (inCutting p (atExpiry _ (fun s => transmit (missExpires p s))) s) = _
    rw [inCutting_of hx, atExpiry_due hs hm hd]
    refine congrArg _ (congrArg transmit ?_)
    have index : pl.next - 1 + 2 = pl.next + 1 := by omega
    rw [missExpires_eq hl hp h1 hn.le, if_pos limit, forceAdvance_atMark ht hn]
    refine congrArg (setFlag _ _) (modSt_congr ?_)
    unfold Station.forcedOut Station.exitCell
    rw [index, decide_eq_true hn]
    rfl
  · intro t load valid hl ht hb hn htime
    have st : (s.modSt p (fun x => x.holdsBytes [])).st p = (s.st p).holdsBytes [] := State.modSt_st_self ..
    rw [exec_mark valid hs hl, takeMark_accepted (by rw [st]; exact hx) (by rw [st]; exact ht)
      (by rw [st]; exact hb) (by rw [st]; exact hp) hn] at htime
    cases htime
    refine congrArg _ (inCutting_not_due fun d hd => ?_)
    rw [transmit_st] at hd
    rw [transmit_tick, (acceptMark_touchesOnly ..).tick]
    obtain stopped | ⟨duration, restarted⟩ := acceptMark_miss (p := p) (pl := pl)
      (s := s.modSt p (fun x => x.holdsBytes [])) (if valid then some load.toNat else none)
    · rw [stopped] at hd; cases hd
    · exact startTimer_not_due _ _ d (restarted.symm.trans hd)

end

end Sys2Proof.Machine
end

section
/-! # Dressings -/

namespace Sys2Proof.Machine

section
variable {p : StationId}

/-! ## Dressings -/

/-- A dressing begun (R127, R128). -/
def Station.dresses (x : Station) (kind : DressKind) (quarters : Nat) (gauge : Bool) (now : Nat) : Station :=
  { x.sends (.dress quarters gauge ((x.dress.number + 1) % 16)) with
    state := .dressing, plan := none, captureRef := none
    timers := ⟨none, none, none, none, none, startTimer now (x.cfg.dressTimeout * 4096)⟩
    dress := { x.dress with
      number := (x.dress.number + 1) % 16
      inFlight := some ⟨quarters, gauge, (x.dress.number + 1) % 16, kind⟩ } }

theorem startDressing_eq (kind : DressKind) (quarters : Nat) (gauge : Bool) (s : State) :
    startDressing p kind quarters gauge s = s.modSt p (fun x => x.dresses kind quarters gauge s.tick) := by
  unfold startDressing; dsimp only
  rw [issue, State.modSt_modSt]
  exact modSt_congr rfl

/-- Settles O45: the settle expiry, and the closing dressing that it begins. -/
theorem closingDressingBegins : Obligations.ClosingDressingBegins := by
  intro s p r quarters number hs
  refine ⟨fun d hx ht hd => ?_, fun h => ?_⟩
  · show Host.Outcome.next (if (s.st p).state = .spinup then atExpiry _ (startClosing p) s else s) = _
    rw [if_pos hx, atExpiry_due hs ht hd]
    exact congrArg _ ((startDressing_eq ..).trans (modSt_congr rfl))
  · show Host.Outcome.next (if (s.st p).state = .spinup then atExpiry _ (startClosing p) s else s) = _
    rw [atExpiry_not_due h, ite_self]

/-- The owed dressing that is taken next, with the length of the mode (R126, R127). -/
theorem startOwed_eq (point : CallPoint) (s : State) :
    startOwed p point s = s.modSt p (fun x => x.dresses (.owed point) x.dress.mode.quarters
      ((x.dress.qsum + x.dress.mode.quarters) % 4 == 0) s.tick) := by
  unfold startOwed
  exact (startDressing_eq ..).trans (modSt_congr rfl)

/-! ## DRESSED -/

theorem exec_dressed (number : BitVec 4) (length : Option (BitVec 16)) (hs : s.inReset = false) :
    exec (.dressed p number length) s = .next (takeDressed p number.toNat (length.map BitVec.toNat)
      (s.modSt p (fun x => x.holdsBytes []))) := congrArg _ (outOfReset_of_not hs)

theorem takeDressed_ignored {number : Nat} {length : Option Nat}
    (h : (s.st p).state ≠ .dressing ∨ ∀ f, (s.st p).dress.inFlight = some f → f.number ≠ number) :
    takeDressed p number length s = s := by
  unfold takeDressed
  split
  · next hx =>
    split
    · rfl
    · next f hf => exact if_neg ((h.resolve_left (not_not.mpr hx)) f hf)
  · rfl

theorem takeDressed_completes {number : Nat} {length : Option Nat} {f : Dressing} (hx : (s.st p).state = .dressing)
    (hf : (s.st p).dress.inFlight = some f) (hn : f.number = number) :
    takeDressed p number length s = transmit (completeDressing p f length s) := by
  unfold takeDressed
  rw [if_pos hx, hf]
  exact if_pos hn

/-- The dressing in flight over, credited and its gauge taken (R130 steps 1 to 4). -/
def Station.completes (x : Station) (f : Dressing) (length : Option Nat) : Station :=
  { x with timers := { x.timers with dress := none }, dress := x.dress.complete f length }

/-- A completion without a wear above the limit goes on (R130). -/
theorem completeDressing_unworn {f : Dressing} {length : Option Nat}
    (hg : gaugeWarns f length ((s.st p).dress.complete f length) = false)
    (hw : ((s.st p).dress.complete f length).worn = false) :
    completeDressing p f length s = afterDressing p f.kind (s.modSt p (fun x => x.completes f length)) := by
  unfold completeDressing; dsimp only
  rw [State.modSt_st_self, if_neg (ne_true_of_eq_false hg), State.modSt_st_self]
  exact if_neg (ne_true_of_eq_false hw)

theorem parkForWear_eq (p : StationId) (s : State) :
    parkForWear p s = setFlag (.station p) flagWorn (s.modSt p (fun x =>
      { (x.sends .spinOff).outOfRun with
        state := .parked, holdPending := false, parkPending := false, dress := { x.dress with owed := 0 } })) := by
  unfold parkForWear
  rw [issue, State.modSt_modSt]; rfl

/-- A completion that finds the tool worn parks the station for wear; WORN is set before and after (R131, R133). -/
theorem completeDressing_worn {f : Dressing} {length : Option Nat}
    (hg : gaugeWarns f length ((s.st p).dress.complete f length) = true)
    (hw : ((s.st p).dress.complete f length).worn = true) :
    completeDressing p f length s = setFlag (.station p) flagWorn (s.modSt p (fun x =>
      { ((x.completes f length).sends .spinOff).outOfRun with
        state := .parked, holdPending := false, parkPending := false
        dress := { (x.completes f length).dress with owed := 0 } })) := by
  have worn : ((setFlag (.station p) flagWorn (s.modSt p (fun x => x.completes f length))).st p).dress.worn = true := by
    obtain ⟨n, h⟩ := setFlag_st (.station p) flagWorn (s.modSt p (fun x => x.completes f length)) p
    rw [h, State.modSt_st_self]; exact hw
  unfold completeDressing; dsimp only
  rw [State.modSt_st_self, if_pos hg]
  refine (if_pos worn).trans ?_
  rw [parkForWear_eq, modSt_setFlag (fun _ _ => rfl), setFlag_twice (by decide), State.modSt_modSt]
  rfl

theorem afterDressing_of_none {kind : DressKind} (park : (s.st p).parkPending = false)
    (hold : (s.st p).takesHold kind = false) :
    afterDressing p kind s = match kind with
      | .owed point => if (s.st p).dress.owed ≠ 0 then startOwed p point s else afterOwed p point s
      | .closing => endSpinup p s := by
  unfold afterDressing; dsimp only
  rw [if_neg (ne_true_of_eq_false park), if_neg (ne_true_of_eq_false hold)]
  cases kind <;> rfl

theorem afterOwed_goes_on {point : CallPoint} (h : point ≠ .stripDone) :
    afterOwed p point s = carryOn (planFuel s) p (s.modSt p (fun x => { x with state := .cutting })) := by
  cases point with
  | stripDone => exact absurd rfl h
  | runEnd => rfl
  | intoCutting => rfl

theorem endSpinup_idle (h : (s.st p).ret = .idle) : endSpinup p s = s.modSt p (fun x =>
    { x.sends .spinOff with state := .idle, holdPending := false }) := by
  unfold endSpinup
  rw [h]; dsimp only
  rw [issue, State.modSt_modSt]; rfl

/-- A closing dressing's gauge takes the length as the reference when there is none (R131). -/
theorem complete_first_gauge {r : DressRecord} {q n len : Nat} (href : r.ref = none) (hworn : r.worn = false)
    (hwear : r.wear ≤ 300) :
    r.complete ⟨q, true, n, .closing⟩ (some len) =
      { r with inFlight := none, qsum := (r.qsum + q) % 4, due := 0, owed := 0, ref := some len } := by
  have unworn : (r.worn || decide (Config.wearMax < r.wear)) = r.worn := by
    rw [hworn, Bool.false_or]; exact decide_eq_false (Nat.not_lt.mpr hwear)
  simp only [DressRecord.complete, DressRecord.credit, DressRecord.takeGauge, href, if_true, unworn]

/-- A closing dressing's gauge finds a loss above the limit (R131). -/
theorem complete_great_loss {r : DressRecord} {q n len ref : Nat} (href : r.ref = some ref) (hworn : r.worn = false)
    (hwear : r.wear ≤ 300) (loss : 300 < ref - len) :
    r.complete ⟨q, true, n, .closing⟩ (some len) =
      { r with
        inFlight := none, qsum := (r.qsum + q) % 4, due := 0, owed := 0, wear := ref - len, worn := true } := by
  have wear : max r.wear (ref - len) = ref - len := by omega
  have worn : decide (Config.wearMax < ref - len) = true := decide_eq_true loss
  simp [DressRecord.complete, DressRecord.credit, DressRecord.takeGauge, href, hworn, wear, worn]

/-- An owed dressing without a gauge is credited alone (R130). -/
theorem complete_owed (r : DressRecord) (q n : Nat) (point : CallPoint) (length : Option Nat) :
    r.complete ⟨q, false, n, .owed point⟩ length =
      { r with inFlight := none, qsum := (r.qsum + q) % 4, owed := r.owed - 1 } := rfl

/-- Settles O46: the record after the completion, and what follows it. -/
theorem dressedCompletesOrIsIgnored : Obligations.DressedCompletesOrIsIgnored := by
  intro s p number length hs
  have st : (s.modSt p (fun x => x.holdsBytes [])).st p = (s.st p).holdsBytes [] := State.modSt_st_self ..
  have dr : ((s.modSt p (fun x => x.holdsBytes [])).st p).dress = (s.st p).dress := by rw [st]; rfl
  have completes : ∀ (l : Option (BitVec 16)) (f : Dressing), (s.st p).state = .dressing →
      (s.st p).dress.inFlight = some f → f.number = number.toNat →
      exec (.dressed p number l) s = .next (transmit (completeDressing p f (l.map BitVec.toNat)
        (s.modSt p (fun x => x.holdsBytes [])))) := fun l f hx hf hn => by
    rw [exec_dressed number l hs, takeDressed_completes (by rw [st]; exact hx) (by rw [st]; exact hf) hn]
  refine ⟨fun h => ?_, fun q len hx hf worn wear park => ⟨fun ret ref => ?_, fun ref href loss => ?_⟩,
    fun q point hx hf worn park hold owed => ?_, fun q point hpoint hx hf worn park hold owed => ?_⟩
  · rw [exec_dressed number length hs, takeDressed_ignored (by rw [st]; exact h)]; rfl
  · have record : (s.st p).dress.complete _ (some len.toNat) = _ :=
      complete_first_gauge (q := q) (n := number.toNat) ref worn wear
    rw [completes (some len) _ hx hf rfl, Option.map_some,
      completeDressing_unworn (by rw [dr, record]; exact decide_eq_false (Nat.not_lt.mpr wear))
        (by rw [dr, record]; exact worn),
      afterDressing_of_none (by rw [State.modSt_st_self, st]; exact park)
        (by rw [State.modSt_st_self, st]; simp [Station.takesHold, Station.completes, Station.holdsBytes, ret])]
    dsimp only
    rw [endSpinup_idle (by rw [State.modSt_st_self, st]; exact ret), State.modSt_modSt, State.modSt_modSt]
    refine congrArg _ (congrArg transmit (modSt_congr ?_))
    simp only [Station.completes, record, Station.sends, Station.holdsBytes]
  · have record : (s.st p).dress.complete _ (some len.toNat) = _ :=
      complete_great_loss (q := q) (n := number.toNat) href worn wear loss
    rw [completes (some len) _ hx hf rfl, Option.map_some,
      completeDressing_worn (by rw [dr, record]; exact decide_eq_true loss) (by rw [dr, record]), State.modSt_modSt]
    refine congrArg _ (congrArg transmit (congrArg (setFlag _ _) (modSt_congr ?_)))
    simp only [Station.completes, record, Station.sends, Station.holdsBytes, Station.outOfRun]
  · have record : (s.st p).dress.complete _ (length.map BitVec.toNat) = _ :=
      complete_owed _ q number.toNat point _
    have more : (((s.modSt p (fun x => x.holdsBytes [])).modSt p (fun x => x.completes
        ⟨q, false, number.toNat, .owed point⟩ (length.map BitVec.toNat))).st p).dress.owed ≠ 0 := by
      rw [State.modSt_st_self, Station.completes, dr, record]
      show (s.st p).dress.owed - 1 ≠ 0
      omega
    rw [completes length _ hx hf rfl,
      completeDressing_unworn rfl (by rw [dr, record]; exact worn),
      afterDressing_of_none (by rw [State.modSt_st_self, st]; exact park)
        (by rw [State.modSt_st_self, st]; simp [Station.takesHold, Station.completes, Station.holdsBytes, hold])]
    dsimp only
    rw [if_pos more, startOwed_eq, State.modSt_modSt, State.modSt_modSt]
    refine congrArg _ (congrArg transmit (modSt_congr ?_))
    simp only [Station.completes, record, Station.sends, Station.holdsBytes, Station.dresses, hx]
    rfl
  · have record : (s.st p).dress.complete _ (length.map BitVec.toNat) = _ :=
      complete_owed _ q number.toNat point _
    have last : ¬ (((s.modSt p (fun x => x.holdsBytes [])).modSt p (fun x => x.completes
        ⟨q, false, number.toNat, .owed point⟩ (length.map BitVec.toNat))).st p).dress.owed ≠ 0 := by
      rw [State.modSt_st_self, Station.completes, dr, record]
      show ¬ (s.st p).dress.owed - 1 ≠ 0
      omega
    rw [completes length _ hx hf rfl,
      completeDressing_unworn rfl (by rw [dr, record]; exact worn),
      afterDressing_of_none (by rw [State.modSt_st_self, st]; exact park)
        (by rw [State.modSt_st_self, st]; simp [Station.takesHold, Station.completes, Station.holdsBytes, hold])]
    dsimp only
    rw [if_neg last, afterOwed_goes_on hpoint, State.modSt_modSt, State.modSt_modSt]
    refine congrArg _ (congrArg transmit (congrArg (carryOn _ p) (modSt_congr ?_)))
    simp only [Station.completes, record, Station.holdsBytes, owed]

end

end Sys2Proof.Machine
end

section
/-! # The load at a mark -/

namespace Sys2Proof.Machine

section
variable {s t u : State} {p : StationId} {pl : Plan}

/-! ## Changes of one station and the notice queue -/

/-- The station is changed by `f`, and nothing else but the notice queue. -/
def Changes (p : StationId) (f : Station → Station) (s t : State) : Prop := ∃ q, t = (s.modSt p f).setQueue q

theorem modSt_changes (p : StationId) (f : Station → Station) (s : State) : Changes p f s (s.modSt p f) :=
  ⟨s.noticeQueue, rfl⟩

theorem setFlag_changes (p : StationId) (flag : FlagSet) (s : State) :
    Changes p (fun x => { x with notices := x.notices.raised flag }) s (setFlag (.station p) flag s) :=
  ⟨_, setFlag_station_eq p flag s⟩

theorem Changes.trans {f g : Station → Station} (h : Changes p f s t) (k : Changes p g t u) :
    Changes p (fun x => g (f x)) s u := by
  obtain ⟨q, rfl⟩ := h
  obtain ⟨r, rfl⟩ := k
  refine ⟨r, ?_⟩
  show ((s.modSt p f).modSt p g).setQueue r = _
  rw [State.modSt_modSt]

/-- A change that is made or not. -/
theorem Changes.ite {f : Station → Station} (b : Bool) (h : Changes p f s t) :
    Changes p (fun x => if b then f x else x) s (if b then t else s) := by
  cases b with
  | true => exact h
  | false => exact ⟨s.noticeQueue, (State.modSt_self s p).symm.trans (modSt_congr rfl)⟩

theorem Changes.st {f : Station → Station} (h : Changes p f s t) : t.st p = f (s.st p) := by
  obtain ⟨q, rfl⟩ := h
  exact State.modSt_st_self ..

theorem Changes.others {f : Station → Station} (h : Changes p f s t) {q : StationId} (hq : q ≠ p) :
    t.st q = s.st q := by
  obtain ⟨r, rfl⟩ := h
  exact State.modSt_st_ne s f hq.symm

theorem Changes.rest {f : Station → Station} (h : Changes p f s t) :
    t = { s with stations := t.stations, noticeQueue := t.noticeQueue } := by
  obtain ⟨q, rfl⟩ := h; rfl

/-! ## The load check -/

/-- The station after an overload, if the residual is one (R143). -/
def Station.overloads (x : Station) (b : Bool) : Station :=
  if b then { x.overloadHit with notices := x.notices.raised flagOverload } else x

/-- The station after the load check of a cut cell (R143, R145, R147). -/
def Station.checked (x : Station) (r : Int) : Station :=
  let y := x.overloads (x.overloadAt r)
  { (if x.spallAt r then { y with notices := y.notices.raised flagSpall } else y) with prevResidual := some r }

theorem loadCheck_changes (p : StationId) (bite load : Nat) (s : State) :
    let r := residual (s.st p).cfg.hardness bite load
    Changes p (fun _ => (s.st p).checked r) s (loadCheck p bite load s).1 ∧
      (loadCheck p bite load s).2 = (s.st p).spallAt r := by
  intro r
  have hit := ((modSt_changes p Station.overloadHit s).trans (setFlag_changes p flagOverload _)).ite
    ((s.st p).overloadAt r)
  have spall := hit.trans ((setFlag_changes p flagSpall _).ite ((s.st p).spallAt r))
  obtain ⟨q, e⟩ := spall.trans (modSt_changes p (fun y => { y with prevResidual := some r }) _)
  exact ⟨⟨q, e.trans (congrArg (State.setQueue · q) (modSt_congr rfl))⟩, rfl⟩

/-! ## The station after the load check -/

/-- A raised flag of one bit is pending. -/
theorem raised_bit (n : NoticeSets) {flag : FlagSet} {i : Nat} (h : flag = BitVec.twoPow 16 i) (hi : i < 16) :
    (n.raised flag).pending &&& flag = flag := by
  subst h
  have set : (n.raised (BitVec.twoPow 16 i)).pending &&& BitVec.twoPow 16 i ≠ 0 := raised_pending n (by
    intro e
    have := congrArg (BitVec.getLsbD · i) e
    simp [hi] at this)
  rw [BitVec.and_twoPow] at set ⊢
  split at set
  · next h => rw [if_pos h]
  · exact absurd rfl set

/-- A flag that is pending stays pending when another is raised. -/
theorem raised_keeps (n : NoticeSets) (other : FlagSet) {flag : FlagSet} (h : n.pending &&& flag = flag) :
    (n.raised other).pending &&& flag = flag := by
  unfold NoticeSets.raised
  split
  · exact h
  · show (n.pending ||| other) &&& flag = flag
    rw [BitVec.and_comm, BitVec.and_or_distrib_left, BitVec.and_comm, h]
    ext i hi
    simp only [BitVec.getElem_and, BitVec.getElem_or]
    cases flag[i] <;> rfl

/-- The load check touches the notices, the overload count, the work, the bite and the previous residual. -/
theorem checked_eq (x : Station) (r : Int) : x.checked r =
    { x with
      notices := (x.checked r).notices, counts := (x.checked r).counts, work := (x.checked r).work
      beff := (x.checked r).beff, prevResidual := some r } := by
  unfold Station.checked Station.overloads
  cases x.overloadAt r <;> cases x.spallAt r <;> rfl

theorem checked_work_stock (x : Station) (r : Int) : (x.checked r).work.map Work.stock = x.work.map Work.stock := by
  have overloads : ∀ b, (x.overloads b).work.map Work.stock = x.work.map Work.stock := by
    intro b
    cases b with
    | true => show (x.work.map _).map Work.stock = _; rw [Option.map_map]; rfl
    | false => rfl
  unfold Station.checked
  cases x.spallAt r <;> exact overloads _

/-- A residual above the threshold is an overload (R143). -/
theorem checked_overload {x : Station} {r : Int} {w : Work} (h : (x.cfg.overload : Int) < r) (hw : x.work = some w) :
    (x.checked r).counts.overload = min 65535 (x.counts.overload + 1) ∧
    (x.checked r).work.map Work.overloaded = some true ∧ (x.checked r).notices.pending &&& 0x040 = 0x040 ∧
    (x.checked r).beff = if w.phase = .rough then max (x.beff / 2) (biteFloor x.cfg.bite) else x.beff := by
  have above : x.overloadAt r = true := decide_eq_true h
  have bit : (x.notices.raised 0x040).pending &&& 0x040 = 0x040 := raised_bit _ (i := 6) (by decide) (by decide)
  unfold Station.checked Station.overloads
  simp only [above, if_true]
  cases x.spallAt r with
  | true =>
    refine ⟨rfl, ?_, raised_keeps _ _ bit, ?_⟩ <;> simp [Station.overloadHit, hw]
  | false =>
    refine ⟨rfl, ?_, bit, ?_⟩ <;> simp [Station.overloadHit, hw]

/-- A residual at the threshold or below is none. -/
theorem checked_no_overload {x : Station} {r : Int} (h : r ≤ (x.cfg.overload : Int)) :
    (x.checked r).counts.overload = x.counts.overload ∧ (x.checked r).work = x.work ∧ (x.checked r).beff = x.beff := by
  have below : x.overloadAt r = false := decide_eq_false (by omega)
  unfold Station.checked Station.overloads
  rw [below]
  cases x.spallAt r <;> exact ⟨rfl, rfl, rfl⟩

theorem checked_spall {x : Station} {r : Int} (h : x.spallAt r = true) :
    (x.checked r).notices.pending &&& 0x020 = 0x020 := by
  unfold Station.checked
  simp only [h, if_true]
  exact raised_bit _ (i := 5) (by decide) (by decide)

theorem spallAt_iff {x : Station} {r : Int} :
    x.spallAt r = true ↔ ∃ q, x.prevResidual = some q ∧ (x.cfg.spall : Int) < q - r := by
  unfold Station.spallAt
  split
  · next h => simp [h]
  · next q h => simp [h]

/-! ## A loaded mark -/

/-- The station as the load check of mark j ≥ 1 finds it: the capture taken and the exit recorded (R79). -/
def Station.exits (x : Station) (pl : Plan) (now : Nat) : Station :=
  (x.capture now pl.next).exitCell pl (pl.next - 1)

/-- The station after the load check: held by a spall, or in the next cell (R79, R146). -/
def Station.goesOn (x : Station) (pl : Plan) (now : Nat) (spall : Bool) : Station :=
  if spall then { (x.sends .lift).outOfRun with state := .held, holdPending := false, resumeSpinup := false }
  else (x.markTimers now true).sends (.plunge (pl.cell pl.next).setpoint)

theorem cutShort_goesOn (pl : Plan) (now : Nat) (park : (s.st p).parkPending = false) :
    cutShort p s = s.modSt p (fun x => x.goesOn pl now true) := by
  rw [cutShort_eq, enterHeld_of_no_park (by rw [State.modSt_st_self]; exact park), State.modSt_modSt]
  rfl

theorem plunge_goesOn (pl : Plan) (now : Nat) (trigger : (s.st p).cfg.trigger = .atMark) :
    plungeAtMark p pl pl.next (s.modSt p (fun x => x.markTimers now true)) =
      s.modSt p (fun x => x.goesOn pl now false) := by
  rw [plungeAtMark_atMark (by rw [State.modSt_st_self]; exact trigger), State.modSt_modSt]
  rfl

/-- Mark j of a run, 1 ≤ j < n, with a valid load, in AT_MARK mode (R79, R141 to R147). -/
theorem acceptMark_loaded {l : Nat} (h1 : 1 ≤ pl.next) (hn : pl.next < pl.rows)
    (cut : (pl.cell (pl.next - 1)).cut = true) (trigger : (s.st p).cfg.trigger = .atMark)
    (park : (s.st p).parkPending = false) :
    let y := (s.st p).exits pl s.tick
    let r := residual (s.st p).cfg.hardness ((pl.cell (pl.next - 1)).depth - (pl.cell (pl.next - 1)).stock) l
    Changes p (fun _ => (y.checked r).goesOn pl s.tick (y.spallAt r)) s (acceptMark p pl (some l) s) := by
  intro y r
  have here : ((s.modSt p (fun x => x.exits pl s.tick)).st p) = y := State.modSt_st_self ..
  have cfg : y.cfg = (s.st p).cfg := by
    show (((s.st p).capture s.tick pl.next).exitCell pl _).cfg = _
    rw [Station.capture_eq]; rfl
  have parkY : y.parkPending = false := by
    show (((s.st p).capture s.tick pl.next).exitCell pl _).parkPending = _
    rw [Station.capture_eq]; exact park
  obtain ⟨check, spall⟩ := loadCheck_changes p
    ((pl.cell (pl.next - 1)).depth - (pl.cell (pl.next - 1)).stock) l (s.modSt p (fun x => x.exits pl s.tick))
  rw [here, cfg] at check spall
  have after := (modSt_changes p (fun x => x.exits pl s.tick) s).trans check
  have stays := checked_eq y r
  have accept : acceptMark p pl (some l) s =
      let c := loadCheck p ((pl.cell (pl.next - 1)).depth - (pl.cell (pl.next - 1)).stock) l
        (s.modSt p (fun x => x.exits pl s.tick))
      if c.2 then cutShort p c.1
      else plungeAtMark p pl pl.next (c.1.modSt p (fun x => x.markTimers s.tick true)) := by
    unfold acceptMark; dsimp only
    rw [if_pos hn, markExit_later h1, recordExit]
    simp only [cut, if_true, State.modSt_modSt]
    rfl
  rw [accept]; dsimp only
  rw [spall]
  cases hr : y.spallAt r with
  | true =>
    rw [if_pos rfl, cutShort_goesOn pl s.tick (by rw [check.st, stays]; exact parkY)]
    have held := after.trans (modSt_changes p (fun x => x.goesOn pl s.tick true) _)
    exact held
  | false =>
    rw [if_neg Bool.false_ne_true, plunge_goesOn pl s.tick (by
      rw [check.st, stays]
      show y.cfg.trigger = _
      rw [cfg]; exact trigger)]
    have entered := after.trans (modSt_changes p (fun x => x.goesOn pl s.tick false) _)
    exact entered

theorem goesOn_eq (x : Station) (pl : Plan) (now : Nat) (b : Bool) :
    ((x.goesOn pl now b).dress, (x.goesOn pl now b).config, (x.goesOn pl now b).strip, (x.goesOn pl now b).work) =
      (x.dress, x.config, x.strip, x.work) ∧
    ((x.goesOn pl now b).counts.overload, (x.goesOn pl now b).notices, (x.goesOn pl now b).beff) =
      (x.counts.overload, x.notices, x.beff) := by
  cases b <;> exact ⟨rfl, rfl⟩

/-- The exit of a cut cell, field by field (R53, R125). -/
theorem exits_eq {x : Station} {w : Work} (now : Nat) (hw : x.work = some w)
    (cut : (pl.cell (pl.next - 1)).cut = true) :
    x.exits pl now =
      { x with
        captures := (x.capture now pl.next).captures
        work := some { w with
          stock := w.stock.set (pl.next - 1)
            ((w.stock.getD (pl.next - 1) []).set pl.column (pl.cell (pl.next - 1)).depth) }
        dress := x.dress.countCut, plan := some { pl with next := pl.next - 1 + 2 } } := by
  unfold Station.exits Station.exitCell; dsimp only
  rw [Station.capture_eq, if_pos cut, if_pos cut, hw]
  rfl

/-- Settles O44: the load check of the exit, and what the mark does after it. -/
theorem overloadHalvesBiteAndSpallHolds : Obligations.OverloadHalvesBiteAndSpallHolds := by
  intro s p load pl w x e r spalls hs hl cutting trigger blank plan work park h1 hn cut
  let s0 := s.modSt p (fun x => x.holdsBytes [])
  have here : s0.st p = x.holdsBytes [] := State.modSt_st_self ..
  let y := (x.holdsBytes []).exits pl s.tick
  have fields := exits_eq (x := x.holdsBytes []) s.tick work cut
  change y = _ at fields
  have stays := checked_eq y r
  have spall : y.spallAt r = true ↔ spalls := spallAt_iff.trans (by rw [fields]; rfl)
  have done : Changes p (fun _ => (y.checked r).goesOn pl s.tick (y.spallAt r)) s
      (acceptMark p pl (some load.toNat) s0) := by
    have loaded := acceptMark_loaded (s := s0) (p := p) (l := load.toNat) h1 hn cut
      (by rw [here]; exact trigger) (by rw [here]; exact park)
    rw [here] at loaded
    have both := (modSt_changes p (fun x => x.holdsBytes []) s).trans loaded
    exact both
  obtain ⟨kept, same⟩ := goesOn_eq (y.checked r) pl s.tick (y.spallAt r)
  simp only [Prod.mk.injEq] at kept same
  obtain ⟨dress, config, strip, workIs⟩ := kept
  obtain ⟨count, notices, beff⟩ := same
  refine ⟨acceptMark p pl (some load.toNat) s0, ?_, done.rest, fun q hq => done.others hq, ?_⟩
  · rw [exec_mark true hs hl]
    refine congrArg _ (takeMark_accepted ?_ ?_ ?_ ?_ hn.le)
    · rw [here]; exact cutting
    · rw [here]; exact fun h => by rw [show (x.holdsBytes []).cfg = x.cfg from rfl, trigger] at h; cases h
    · rw [here]; exact blank
    · rw [here]; exact plan
  rw [done.st, dress, config, strip, workIs, count, notices, beff, checked_work_stock]
  refine ⟨?_, ?_, ?_, ?_, fun above => ?_, fun below => ?_, fun h => ?_, fun h => ?_⟩
  · rw [stays, fields]; rfl
  · rw [stays, fields]; rfl
  · rw [stays, fields]; rfl
  · rw [fields]; rfl
  · obtain ⟨total, flag, pending, bite⟩ := checked_overload (x := y) (r := r) (by rw [fields]; exact above)
      (congrArg Station.work fields)
    refine ⟨?_, flag, pending, fun rough => ?_, fun finish => ?_⟩
    · rw [total, fields]; rfl
    · rw [bite, if_pos rough, fields]; rfl
    · rw [bite, if_neg (by rw [show _ = Phase.finish from finish]; exact fun h => by cases h), fields]; rfl
  · obtain ⟨total, workSame, bite⟩ := checked_no_overload (x := y) (r := r) (by rw [fields]; exact below)
    rw [total, workSame, bite, fields]
    exact ⟨rfl, rfl, rfl⟩
  · rw [spall.mpr h]
    refine ⟨rfl, rfl, checked_spall (spall.mpr h), ?_⟩
    show enqueueCmd .lift (y.checked r).port.queue = _
    rw [stays, fields]; rfl
  · rw [Bool.eq_false_iff.mpr (fun e => h (spall.mp e))]
    constructor
    · show (y.checked r).state = _
      rw [stays, fields]; exact cutting
    · show (y.checked r).prevResidual = _
      rw [stays]

end

end Sys2Proof.Machine
end

section
/-! # How a station goes on -/

namespace Sys2Proof.Machine

section
variable {s : State} {p : StationId} {w : Work} {n : Nat}

/-! ## From a position without a strip -/

theorem carryOn_takesUp (hw : (s.st p).work = none) (ready : s.stripReady (s.st p).strip = true) :
    carryOn (n + 1) p s = carryOn n p (takeUp p s) := by
  rw [carryOn, hw]; exact if_pos ready

theorem carryOn_waits (hw : (s.st p).work = none) (ready : ¬ s.stripReady (s.st p).strip = true) :
    carryOn (n + 1) p s = enterWaiting p s := by
  rw [carryOn, hw]; exact if_neg ready

/-! ## From a column -/

theorem carryOn_skips (hw : (s.st p).work = some w) (hc : w.column < s.width)
    (cut : (buildPlan s (s.st p) w).runCut = 0) :
    carryOn (n + 1) p s =
      carryOn n p (skipRun p (buildPlan s (s.st p) w) (countClamped p (clampedCells s (s.st p) w) s)) := by
  rw [carryOn, hw]; dsimp only
  rw [if_pos hc, if_pos cut]

theorem carryOn_runs (hw : (s.st p).work = some w) (hc : w.column < s.width)
    (cut : (buildPlan s (s.st p) w).runCut ≠ 0) :
    carryOn (n + 1) p s =
      startRun p (buildPlan s (s.st p) w) (countClamped p (clampedCells s (s.st p) w) s) := by
  rw [carryOn, hw]; dsimp only
  rw [if_pos hc, if_neg cut]

/-- A run without a cut cell is skipped, its clamped cells counted (R36, R57). -/
theorem skipRun_eq (pl : Plan) (k : Nat) (hw : (s.st p).work = some w) :
    skipRun p pl (countClamped p k s) = s.modSt p (fun y =>
      { y with
        plan := none
        counts := { y.counts with
          clamp := min 65535 ((s.st p).counts.clamp + k), skipped := min 65535 (y.counts.skipped + 1) }
        work := some { w with remaining := w.remaining + pl.shortCount, column := w.column + 1 } }) := by
  unfold skipRun countClamped
  rw [State.modSt_modSt]
  refine modSt_congr ?_
  dsimp only
  rw [hw]; rfl

/-- A run is started, its clamped cells counted (R36, R87). -/
theorem startRun_eq (pl : Plan) (k : Nat) :
    startRun p pl (countClamped p k s) = s.modSt p (fun y =>
      let z := y.sends (.run pl.column pl.rows)
      { (if y.cfg.trigger = .lead then z.sends (.plunge (pl.cell 0).setpoint) else z) with
        plan := some pl, captureRef := none, prevResidual := none
        counts := { y.counts with clamp := min 65535 ((s.st p).counts.clamp + k) }
        timers := { y.timers with
          miss := none, lead := none
          approach := if y.cfg.trigger = .step then none else startTimer s.tick (y.cfg.approach * 16) } }) := by
  unfold startRun countClamped; dsimp only
  rw [State.modSt_st_self]
  by_cases lead : (s.st p).cfg.trigger = .lead
  · rw [if_pos (by exact lead)]
    simp only [issue, State.modSt_modSt]
    refine modSt_congr ?_
    rw [if_pos lead]
    rfl
  · rw [if_neg (by exact lead)]
    simp only [issue, State.modSt_modSt]
    refine modSt_congr ?_
    rw [if_neg lead]
    rfl

/-! ## From the end of a pass -/

/-- The bite after the pass end is told (R144). -/
def Station.passBite (x : Station) (w : Work) : Nat :=
  if w.told = false ∧ w.phase = .rough ∧ w.overloaded = false then min x.cfg.bite (2 * x.beff) else x.beff

theorem tellPassEnd_eq (hw : (s.st p).work = some w) :
    tellPassEnd p s = s.modSt p (fun y =>
      { y with beff := (s.st p).passBite w, work := some { w with told := true } }) := by
  refine modSt_congr ?_
  rw [hw]
  simp only [Station.passBite, Bool.and_eq_true, Bool.not_eq_true', decide_eq_true_eq, and_assoc]

theorem tellPassEnd_st (hw : (s.st p).work = some w) :
    (tellPassEnd p s).st p =
      { s.st p with beff := (s.st p).passBite w, work := some { w with told := true } } := by
  rw [tellPassEnd_eq hw, State.modSt_st_self]

/-- The state at the start of a new pass (R59). -/
theorem newPass_tellPassEnd (phase : Phase) (hw : (s.st p).work = some w) :
    newPass p phase (tellPassEnd p s) = s.modSt p (fun y =>
      { y with
        beff := (s.st p).passBite w
        work := some
          { stock := w.stock, phase := phase, pass := min 65535 (w.pass + 1), column := 0, remaining := 0
            overloaded := false, told := false } }) := by
  rw [tellPassEnd_eq hw, newPass, State.modSt_modSt]; rfl

theorem carryOn_newPass {phase : Phase} (hw : (s.st p).work = some w) (hc : s.width ≤ w.column)
    (verdict : passVerdict (s.st p).cfg.finishEnabled w = some phase) :
    carryOn (n + 1) p s = carryOn n p (newPass p phase (tellPassEnd p s)) := by
  rw [carryOn, hw]; dsimp only
  rw [if_neg (by omega), verdict]

theorem carryOn_stripDone (hw : (s.st p).work = some w) (hc : s.width ≤ w.column)
    (verdict : passVerdict (s.st p).cfg.finishEnabled w = none) :
    carryOn (n + 1) p s =
      if (s.st p).dress.owed ≠ 0 then startOwed p .stripDone (tellPassEnd p s)
      else
        let u := finishStrip p (tellPassEnd p s)
        if (u.st p).state = .done then u else carryOn n p u := by
  rw [carryOn, hw]; dsimp only
  rw [if_neg (by omega), verdict]; dsimp only
  rw [tellPassEnd_st hw]

/-- The station leaves the strip: the map discarded, the buffer and the host told, the index advanced (R24, R60). -/
theorem leaveStrip_tellPassEnd (hw : (s.st p).work = some w) :
    leaveStrip p (tellPassEnd p s) =
      (setFlag (.station p) 0x001 (stripDoneEvent p (s.st p).strip (s.modSt p (fun y =>
        { y with beff := (s.st p).passBite w, work := none, plan := none })))).modSt p
          (fun y => { y with strip := (s.st p).strip + 1 }) := by
  unfold leaveStrip
  rw [tellPassEnd_st hw, tellPassEnd_eq hw, State.modSt_modSt]
  rfl

theorem carryOn_nextStrip (hw : (s.st p).work = some w) (hc : s.width ≤ w.column)
    (verdict : passVerdict (s.st p).cfg.finishEnabled w = none) (hx : (s.st p).state = .cutting)
    (owed : (s.st p).dress.owed = 0) (more : (s.st p).strip + 1 < s.strips) :
    carryOn (n + 1) p s = carryOn n p (leaveStrip p (tellPassEnd p s)) := by
  have left : finishStrip p (tellPassEnd p s) = leaveStrip p (tellPassEnd p s) := by
    rw [finishStrip_eq, tellPassEnd_st hw]; exact if_pos more
  have stays : ((leaveStrip p (tellPassEnd p s)).st p).state = .cutting := by
    rw [leaveStrip_state, tellPassEnd_st hw]; exact hx
  rw [carryOn_stripDone hw hc verdict, if_neg (not_not.mpr owed), left]; dsimp only
  rw [if_neg (by rw [stays]; exact fun h => by cases h)]

theorem carryOn_lastStrip (hw : (s.st p).work = some w) (hc : s.width ≤ w.column)
    (verdict : passVerdict (s.st p).cfg.finishEnabled w = none)
    (owed : (s.st p).dress.owed = 0) (last : s.strips ≤ (s.st p).strip + 1) :
    carryOn (n + 1) p s = endTest (enterDone p (leaveStrip p (tellPassEnd p s))) := by
  have done : finishStrip p (tellPassEnd p s) = endTest (enterDone p (leaveStrip p (tellPassEnd p s))) := by
    rw [finishStrip_eq, tellPassEnd_st hw]; exact if_neg (Nat.not_lt.mpr last)
  rw [carryOn_stripDone hw hc verdict, if_neg (not_not.mpr owed), done]; dsimp only
  rw [if_pos (by rw [endTest_st, enterDone_state])]

theorem enterDone_eq : enterDone p s =
    setFlag (.station p) 0x002 (s.modSt p (fun y => { (y.sends .spinOff).outOfRun with state := .done })) := by
  unfold enterDone
  rw [issue, State.modSt_modSt]; rfl

/-! ## The pass-end evaluation and RESUME -/

theorem passVerdict_remaining (b : Bool) (h : w.remaining ≠ 0) : passVerdict b w = some w.phase := if_pos h

theorem passVerdict_finish {b : Bool} (h : w.remaining = 0) (rough : w.phase = .rough) (hb : b = true) :
    passVerdict b w = some .finish := (if_neg (not_not.mpr h)).trans (if_pos ⟨rough, hb⟩)

theorem passVerdict_done {b : Bool} (h : w.remaining = 0) (hb : w.phase = .finish ∨ b = false) :
    passVerdict b w = none := by
  refine (if_neg (not_not.mpr h)).trans (if_neg fun ⟨rough, finish⟩ => ?_)
  obtain phase | off := hb
  · rw [rough] at phase; cases phase
  · rw [finish] at off; cases off

theorem stripReady_iff {k : Nat} :
    s.stripReady k = true ↔ s.slots[slotOf k].state = .full ∧ s.slots[slotOf k].strip = some k := by
  simp [State.stripReady]

/-- RESUME of a station held in CUTTING or DRESSING passes its checks (R115). -/
theorem resume_held {rest : List Entry} (hx : (s.st p).state = .held) (stop : s.stopLine = false)
    (worn : (s.st p).dress.worn = false) :
    (checkNamed 1 resumeAccepts (stationPayload p) (s.setList rest)).or
      (checkSpindle (stationPayload p) (s.setList rest)) = none := by
  rw [checkNamed_stationPayload, checkThat_of (by show resumeAccepts (s.st p).state = true; rw [hx]; rfl),
    Option.none_or, checkSpindle, namedStation_cons]
  show (checkThat (!s.stopLine) _).or (checkThat (!(s.st p).dress.worn) _) = none
  rw [stop, worn]; rfl

/-- Settles O23: RESUME by its checks, and each step of going on by the station's position. -/
theorem heldStationPlansItsColumn : Obligations.HeldStationPlansItsColumn := by
  intro s p x dress
  have takesOwed : ∀ (u : State) (point : CallPoint), startOwed p point u = dress u point :=
    fun u point => (startOwed_eq point u).trans (modSt_congr rfl)
  refine ⟨fun tag rest => ?_, fun point => ⟨fun owed => ?_, fun owed => ?_⟩, fun n hx => ?_⟩
  · intro t h hx resume stop worn
    have taken : resumeStation p (s.setList rest) = t := if_pos ⟨hx, resume⟩
    have answered := control_done h (c := .resume) (op := resumeStation) (check := fun payload u =>
      (checkNamed 1 resumeAccepts payload u).or (checkSpindle payload u)) rfl (resume_held hx stop worn) taken
    exact answered
  · exact (if_pos owed).trans (takesOwed s point)
  · exact if_neg (not_not.mpr owed)
  refine ⟨fun hw full strip => ?_, fun hw other => ?_, fun w hw hc => ?_, fun w hw hc => ?_⟩
  · exact (carryOn_takesUp hw (stripReady_iff.mpr ⟨full, strip⟩)).trans (congrArg _ (modSt_congr rfl))
  · refine carryOn_waits hw (fun ready => ?_)
    obtain ⟨full, strip⟩ := stripReady_iff.mp ready
    exact other.elim (fun h => h full) (fun h => h strip)
  · exact ⟨fun cut => (carryOn_skips hw hc cut).trans (congrArg _ (skipRun_eq _ _ hw)),
      fun cut => (carryOn_runs hw hc cut).trans (startRun_eq _ _)⟩
  · refine ⟨fun left => ?_, fun none rough finish => ?_, fun none ended => ?_⟩
    · exact (carryOn_newPass hw hc (passVerdict_remaining _ left)).trans
        (congrArg _ (newPass_tellPassEnd _ hw))
    · exact (carryOn_newPass hw hc (passVerdict_finish none rough finish)).trans
        (congrArg _ (newPass_tellPassEnd _ hw))
    · have verdict := passVerdict_done none ended
      refine ⟨fun owed => ?_, fun owed more => ?_, fun owed last => ?_⟩
      · rw [carryOn_stripDone hw hc verdict, if_pos owed, takesOwed, tellPassEnd_eq hw]
        rfl
      · exact (carryOn_nextStrip hw hc verdict hx owed more).trans (congrArg _ (leaveStrip_tellPassEnd hw))
      · rw [carryOn_lastStrip hw hc verdict owed last, endTest_eq, enterDone_eq, leaveStrip_tellPassEnd hw]
        rfl

end

end Sys2Proof.Machine
end
